-- ==== Sys2Proof/Word.lean ====
section
/-! DEFINITION. The word types of the block: a 32-bit word, which is also the pattern of a binary32
value (40_numerics.md R90), and the 64-bit command word (30_encoding.md R70). -/

namespace Sys2Proof

/-- A 32-bit word: an element of S by its pattern, or an unsigned integer (00_scope.md R12). -/
abbrev Word := BitVec 32

/-- A command word (30_encoding.md R70). -/
abbrev CmdWord := BitVec 64

end Sys2Proof
end

