-- ==== Sys2Proof/Syntax.lean ====
section
/-! DEFINITION. The twelve commands of the block (30_encoding.md R73), one constructor for each row
of the opcode table. Indices and counts are natural numbers, as the rules compare them; the data
field is the 32 bits it is (R72). -/

namespace Sys2Proof

/-- A command, with the operands of its assembler form (30_encoding.md R78). -/
inductive Instr
  /-- `NOP` (41_session_ops.md R120). -/
  | nop
  /-- `RESET` (41_session_ops.md R121). -/
  | reset
  /-- `PREPARE nch, maxblk, fs` (41_session_ops.md R122). -/
  | prepare (nch maxblk : Nat) (fs : Word)
  /-- `UPDATE` (45_coefficient_update.md R209). -/
  | update
  /-- `SETP p, v` (42_parameter_ops.md R130). -/
  | setp (p : Nat) (v : Word)
  /-- `GETP p` (42_parameter_ops.md R131). -/
  | getp (p : Nat)
  /-- `TCDIRTY` (42_parameter_ops.md R132). -/
  | tcdirty
  /-- `RDCOEF s, k` (42_parameter_ops.md R134). -/
  | rdcoef (s k : Nat)
  /-- `RDSR r` (42_parameter_ops.md R135). -/
  | rdsr (r : Nat)
  /-- `PUT c, i, x` (43_signal_chain.md R140). -/
  | put (c i : Nat) (x : Word)
  /-- `PROCESS n` (43_signal_chain.md R141). -/
  | process (n : Nat)
  /-- `GET c, i` (43_signal_chain.md R142). -/
  | get (c i : Nat)
  deriving DecidableEq, Repr

end Sys2Proof
end

