-- ==== Sys2Proof/WellFormed.lean ====
section
/-! DEFINITION. Which commands have an encoding: every operand fits its field (30_encoding.md R70;
"The assembler rejects an operand that does not fit its field", R78). Whether the value is in the
range the command wants is no matter of form: the command's own rule checks it (R74). -/

namespace Sys2Proof

/-- The operand fits field `A`, 8 bits. -/
def fitsA (a : Nat) : Bool := decide (a < 256)

/-- The operand fits field `N`, 16 bits. -/
def fitsN (n : Nat) : Bool := decide (n < 65536)

/-- Every operand of the command fits its field. -/
def Instr.wf : Instr → Bool
  | .nop => true
  | .reset => true
  | .prepare nch maxblk _ => fitsA nch && fitsN maxblk
  | .update => true
  | .setp p _ => fitsA p
  | .getp p => fitsA p
  | .tcdirty => true
  | .rdcoef s k => fitsA s && fitsN k
  | .rdsr r => fitsA r
  | .put c i _ => fitsA c && fitsN i
  | .process n => fitsN n
  | .get c i => fitsA c && fitsN i

end Sys2Proof
end

