-- ==== Sys2Proof/Decode.lean ====
section
/-! DEFINITION. Decoding a command word, total on all 2^64 words, and encoding a command
(30_encoding.md R70 to R77). -/

namespace Sys2Proof

/-! ## Fields (R70) -/

/-- Field `OP`, bits 63..56. -/
def opField (w : CmdWord) : BitVec 8 := w.extractLsb' 56 8
/-- Field `A`, bits 55..48. -/
def aField (w : CmdWord) : BitVec 8 := w.extractLsb' 48 8
/-- Field `N`, bits 47..32. -/
def nField (w : CmdWord) : BitVec 16 := w.extractLsb' 32 16
/-- Field `D`, bits 31..0. -/
def dField (w : CmdWord) : Word := w.extractLsb' 0 32

/-- The command word with these fields. -/
def packCommand (op a : BitVec 8) (n : BitVec 16) (d : Word) : CmdWord := op ++ a ++ n ++ d

/-! ## The opcode map (R73) -/

/-- The twelve opcodes. -/
inductive Opcode
  | nop | reset | prepare | update | setp | getp | tcdirty | rdcoef | rdsr | put | process | get
  deriving DecidableEq, Repr

/-- The value of `OP` of each opcode (R73). -/
def Opcode.bits : Opcode → BitVec 8
  | .nop => 0x00#8
  | .reset => 0x01#8
  | .prepare => 0x02#8
  | .update => 0x03#8
  | .setp => 0x10#8
  | .getp => 0x11#8
  | .tcdirty => 0x12#8
  | .rdcoef => 0x13#8
  | .rdsr => 0x14#8
  | .put => 0x20#8
  | .process => 0x21#8
  | .get => 0x22#8

/-- All opcodes, in the table's order. -/
def Opcode.all : List Opcode :=
  [.nop, .reset, .prepare, .update, .setp, .getp, .tcdirty, .rdcoef, .rdsr, .put, .process, .get]

/-- The opcode with this value of `OP`, if there is one. -/
def Opcode.ofBits (b : BitVec 8) : Option Opcode := Opcode.all.find? (fun o => o.bits == b)

/-- The opcode of a command. -/
def Instr.opcode : Instr → Opcode
  | .nop => .nop
  | .reset => .reset
  | .prepare _ _ _ => .prepare
  | .update => .update
  | .setp _ _ => .setp
  | .getp _ => .getp
  | .tcdirty => .tcdirty
  | .rdcoef _ _ => .rdcoef
  | .rdsr _ => .rdsr
  | .put _ _ _ => .put
  | .process _ => .process
  | .get _ _ => .get

/-- Match and mask of a row (R74). -/
structure Row where
  matchBits : CmdWord
  mask : CmdWord
  deriving DecidableEq, Repr

/-- The rows of R74. -/
def Opcode.row : Opcode → Row
  | .nop => ⟨0x0000000000000000#64, 0xFFFFFFFFFFFFFFFF#64⟩
  | .reset => ⟨0x0100000000000000#64, 0xFFFFFFFFFFFFFFFF#64⟩
  | .prepare => ⟨0x0200000000000000#64, 0xFF00000000000000#64⟩
  | .update => ⟨0x0300000000000000#64, 0xFFFFFFFFFFFFFFFF#64⟩
  | .setp => ⟨0x1000000000000000#64, 0xFF00FFFF00000000#64⟩
  | .getp => ⟨0x1100000000000000#64, 0xFF00FFFFFFFFFFFF#64⟩
  | .tcdirty => ⟨0x1200000000000000#64, 0xFFFFFFFFFFFFFFFF#64⟩
  | .rdcoef => ⟨0x1300000000000000#64, 0xFF000000FFFFFFFF#64⟩
  | .rdsr => ⟨0x1400000000000000#64, 0xFF00FFFFFFFFFFFF#64⟩
  | .put => ⟨0x2000000000000000#64, 0xFF00000000000000#64⟩
  | .process => ⟨0x2100000000000000#64, 0xFFFF0000FFFFFFFF#64⟩
  | .get => ⟨0x2200000000000000#64, 0xFF000000FFFFFFFF#64⟩

/-- The word selects the row (R74). -/
def Row.selects (r : Row) (w : CmdWord) : Bool := w &&& r.mask == r.matchBits

/-! ## Decoding -/

/-- Why a word is illegal (R75). -/
inductive Reject
  /-- `OP` is none of the twelve values. -/
  | undefinedOpcode
  /-- A field marked "zero" for the opcode is not 0. -/
  | reservedField
  deriving DecidableEq, Repr

/-- The command, when the fields reserved for its opcode are all 0 (R75). -/
def whenZero (reservedAreZero : Bool) (i : Instr) : Except Reject Instr :=
  if reservedAreZero then .ok i else .error .reservedField

/-- The command an opcode and its fields stand for (R73). -/
def decodeFields (o : Opcode) (a : BitVec 8) (n : BitVec 16) (d : Word) : Except Reject Instr :=
  match o with
  | .nop => whenZero (a == 0 && n == 0 && d == 0) .nop
  | .reset => whenZero (a == 0 && n == 0 && d == 0) .reset
  | .prepare => .ok (.prepare a.toNat n.toNat d)
  | .update => whenZero (a == 0 && n == 0 && d == 0) .update
  | .setp => whenZero (n == 0) (.setp a.toNat d)
  | .getp => whenZero (n == 0 && d == 0) (.getp a.toNat)
  | .tcdirty => whenZero (a == 0 && n == 0 && d == 0) .tcdirty
  | .rdcoef => whenZero (d == 0) (.rdcoef a.toNat n.toNat)
  | .rdsr => whenZero (n == 0 && d == 0) (.rdsr a.toNat)
  | .put => .ok (.put a.toNat n.toNat d)
  | .process => whenZero (a == 0 && d == 0) (.process n.toNat)
  | .get => whenZero (d == 0) (.get a.toNat n.toNat)

/-- Decode a command word. Every word is one command or illegal (R75). -/
def decode (w : CmdWord) : Except Reject Instr :=
  match Opcode.ofBits (opField w) with
  | none => .error .undefinedOpcode
  | some o => decodeFields o (aField w) (nField w) (dField w)

/-! ## Encoding -/

/-- The fields `A`, `N`, `D` of a command; a reserved field is 0 (R73). -/
def Instr.fields : Instr → BitVec 8 × BitVec 16 × Word
  | .nop => (0, 0, 0)
  | .reset => (0, 0, 0)
  | .prepare nch maxblk fs => (BitVec.ofNat 8 nch, BitVec.ofNat 16 maxblk, fs)
  | .update => (0, 0, 0)
  | .setp p v => (BitVec.ofNat 8 p, 0, v)
  | .getp p => (BitVec.ofNat 8 p, 0, 0)
  | .tcdirty => (0, 0, 0)
  | .rdcoef s k => (BitVec.ofNat 8 s, BitVec.ofNat 16 k, 0)
  | .rdsr r => (BitVec.ofNat 8 r, 0, 0)
  | .put c i x => (BitVec.ofNat 8 c, BitVec.ofNat 16 i, x)
  | .process n => (0, BitVec.ofNat 16 n, 0)
  | .get c i => (BitVec.ofNat 8 c, BitVec.ofNat 16 i, 0)

/-- The command word of a command. Reserved fields being 0, a legal word is the encoding of the
command it decodes to, so this is also the word a fault records in `FINFO` (log 15). -/
def encode (i : Instr) : CmdWord :=
  packCommand i.opcode.bits i.fields.1 i.fields.2.1 i.fields.2.2

/-! ## Other views of a word -/

/-- The instruction the decoder reads from the table's number `w` of `nbits` bits. -/
def decodeTableWord (nbits w : Nat) : Option Instr :=
  match decode (BitVec.ofNat 64 (w % 2 ^ nbits)) with
  | .ok i => some i
  | .error _ => none

/-- The command word a transport carries as eight bytes, the least significant first
(20_memory.md R52); `none` for another count of bytes. No rule depends on it (log 16). -/
def commandOfBytes : List (BitVec 8) → Option CmdWord
  | [b0, b1, b2, b3, b4, b5, b6, b7] => some (b7 ++ b6 ++ b5 ++ b4 ++ b3 ++ b2 ++ b1 ++ b0)
  | _ => none

/-- The eight bytes in which a transport carries a command word (20_memory.md R52). -/
def bytesOfCommand (w : CmdWord) : List (BitVec 8) :=
  (List.range 8).map (fun i => w.extractLsb' (8 * i) 8)

end Sys2Proof
end

