-- ==== Sys2Proof/Config.lean ====
section
/-! DEFINITION. The implementation parameters that the model takes as arguments (00_scope.md R7), their
values in the reference instance (log 13), and the free values of the model, each an opaque constant
with no body. -/

namespace Sys2Proof

/-! ## The implementation parameters (R7) -/

/-- A closed range of S. -/
structure Range where
  lo : Word
  hi : Word
  deriving DecidableEq, Repr

/-- The implementation parameters of R7, the arguments of the model: constants of an instance, and not
state (10_state.md R37). `NUM` is no argument: R12 and 40_numerics.md fix S as binary32 for every rule.
What an instance must keep is `Machine.Conforms` (Safety.lean); the values this spec decides are those
of `Params.reference` (Machine/Reference.lean). -/
structure Params where
  /-- `NPAR`. -/
  npar : Nat
  /-- `NKIND`. -/
  nkind : Nat
  /-- `NSEC`. -/
  nsec : Nat
  /-- `NCH_MAX`. -/
  nchMax : Nat
  /-- `BUFCAP`. -/
  bufcap : Nat
  /-- `FS_MIN`, `FS_MAX`. -/
  fs : Range
  /-- `FREQ_MIN`, `FREQ_MAX`. -/
  freq : Range
  /-- `PKGAIN_MIN`, `PKGAIN_MAX`. -/
  pkgain : Range
  /-- `Q_MIN`, `Q_MAX`. -/
  q : Range
  /-- `GAIN_MIN`, `GAIN_MAX`. -/
  gain : Range
  /-- `BIAS_MIN`, `BIAS_MAX`. -/
  bias : Range
  /-- `AMT_MIN`, `AMT_MAX`. -/
  amt : Range
  /-- `MIX_MIN`, `MIX_MAX`. -/
  mix : Range
  /-- `DEFAULT[p]`. -/
  defaults : Vector Word 13
  /-- `MAKEUP[k]`. -/
  makeup : Nat → Word
  /-- `INVQ[N][i]`. -/
  invq : Nat → Nat → Word
  /-- `f_tan`. -/
  tan : Word → Word
  /-- `f_sin`. -/
  sin : Word → Word
  /-- `f_cos`. -/
  cos : Word → Word
  /-- `f_db2lin`. -/
  db2lin : Word → Word
  /-- `SHAPE[k]`, a function of the sample and the amount only (44_waveshaper.md R171). -/
  shape : Nat → Word → Word → Word

/-- `DEFAULT[p]` of one parameter. -/
def Params.default (P : Params) (p : Nat) : Word := P.defaults[p]?.getD 0x00000000#32

namespace Config

/-! ## Constants of S (40_numerics.md R101, 00_scope.md R7) -/

/-- `+0.0`. -/
def zero : Word := 0x00000000#32
/-- `1.0`. -/
def one : Word := 0x3F800000#32
/-- `-1.0`. -/
def negOne : Word := 0xBF800000#32
/-- `2.0`. -/
def two : Word := 0x40000000#32
/-- `-2.0`. -/
def negTwo : Word := 0xC0000000#32
/-- `0.5`. -/
def half : Word := 0x3F000000#32
/-- `0.25`. -/
def quarter : Word := 0x3E800000#32
/-- `8.0`. -/
def eight : Word := 0x41000000#32
/-- `64.0`. -/
def sixtyFour : Word := 0x42800000#32
/-- `512.0`. -/
def fiveTwelve : Word := 0x44000000#32
/-- The binary32 value nearest to pi (R101). -/
def pi32 : Word := 0x40490FDB#32
/-- The binary32 value nearest to 2 pi (R101). -/
def twoPi32 : Word := 0x40C90FDB#32
/-- The binary32 value nearest to pi / 2 (R101). -/
def halfPi32 : Word := 0x3FC90FDB#32

/-! ## Geometry and ranges of the reference instance (R7) -/

/-- Number of parameter registers. -/
def npar : Nat := 13
/-- Number of waveshaper kinds. -/
def nkind : Nat := 9
/-- Number of coefficient sections: four low-cut, the peak, four high-cut. -/
def nsec : Nat := 9
/-- Number of system registers (10_state.md R30). -/
def nsr : Nat := 13
/-- Largest channel count of a session. -/
def nchMax : Nat := 2
/-- Sample-buffer capacity per channel, in samples. -/
def bufcap : Nat := 4096
/-- Command-set version, read in `IMPL` (10_state.md R30). -/
def version : Nat := 1

/-- 44100.0 Hz. -/
def fsMin : Word := 0x472C4400#32
/-- 192000.0 Hz. -/
def fsMax : Word := 0x483B8000#32
/-- 20.0 Hz. -/
def freqMin : Word := 0x41A00000#32
/-- 20000.0 Hz. -/
def freqMax : Word := 0x469C4000#32
/-- -36.0 dB, of the peak gain. -/
def pkgainMin : Word := 0xC2100000#32
/-- 36.0 dB, of the peak gain. -/
def pkgainMax : Word := 0x42100000#32
/-- -36.0 dB, of the pre-gain and the post-gain. -/
def gainMin : Word := 0xC2100000#32
/-- 36.0 dB, of the pre-gain and the post-gain. -/
def gainMax : Word := 0x42100000#32
/-- 0.1. -/
def qMin : Word := 0x3DCCCCCD#32
/-- 10.0. -/
def qMax : Word := 0x41200000#32
/-- -1.0. -/
def biasMin : Word := negOne
/-- 1.0. -/
def biasMax : Word := one
/-- 0.0. -/
def amtMin : Word := zero
/-- 0.99, the binary32 value nearest to it (90_conflicts.md C3). -/
def amtMax : Word := 0x3F7D70A4#32
/-- 0.0. -/
def mixMin : Word := zero
/-- 1.0. -/
def mixMax : Word := one

/-! ## Tables of the reference instance (R7) -/

/-- `DEFAULT[p]` (10_state.md R22). -/
def defaults : Vector Word 13 :=
  #v[0x41A00000#32, 0x00000000#32, 0x447A0000#32, 0x00000000#32, 0x3F800000#32,
     0x469C4000#32, 0x00000000#32, 0x00000000#32, 0x00000000#32, 0x00000000#32,
     0x00000000#32, 0x00000000#32, 0x3F800000#32]

/-- `MAKEUP[k]`: 1.0 for every kind of the reference instance (43_signal_chain.md R151). -/
def makeup (_k : Nat) : Word := one

/-- `INVQ[N][j]`, the damping constants of 45_coefficient_update.md R195, for N in 1..4 and j < N;
`+0.0` elsewhere, where no rule reads it. -/
def invq : Nat → Nat → Word
  | 1, 0 => 0x3FB504F3#32
  | 2, 0 => 0x3FEC835E#32
  | 2, 1 => 0x3F43EF15#32
  | 3, 0 => 0x3FF746EA#32
  | 3, 1 => 0x3FB504F3#32
  | 3, 2 => 0x3F0483EE#32
  | 4, 0 => 0x3FFB14BE#32
  | 4, 1 => 0x3FD4DB31#32
  | 4, 2 => 0x3F8E39DA#32
  | 4, 3 => 0x3EC7C5C2#32
  | _, _ => zero

/-! ## Free values

None of these has a body, so nothing about their values can be proved; the definitions that use
them keep only what the spec says of the value. -/

/-- The pattern a primitive's NaN is taken from, one for each place an operation is performed
(40_numerics.md R98, 93_implementation_defined.md U1; log 6). -/
opaque nanBits : List Nat → Word

/-- How `f_tan` differs, in the bits of its result, from the correctly rounded tangent (R104; log 10). -/
opaque tanDelta : Word → Word
/-- The same for `f_sin` (R105; log 10). -/
opaque sinDelta : Word → Word
/-- The same for `f_cos` (R106; log 10). -/
opaque cosDelta : Word → Word
/-- The same for `f_db2lin` (R107; log 10). -/
opaque db2linDelta : Word → Word

/-- The words, each with its key, that `BUF` holds after the reset event of a given number
(10_state.md R36, U6; log 8). -/
opaque bufAfterReset : Nat → List (Nat × Word)
/-- The words, each with its key, that `DRY` holds after the reset event of a given number
(10_state.md R36, U6; log 8). -/
opaque dryAfterReset : Nat → List (Nat × Word)

end Config

end Sys2Proof
end

