-- ==== Sys2Proof/Machine/State.lean ====
section
/-! DEFINITION. The state of the block (10_state.md R20) as plain data, its reset (R36), and the
reasons a step could stop (none: 00_scope.md R14). -/

namespace Sys2Proof.Machine

/-- The five coefficients of one section, divided by a0: index k = 0..4 is b0, b1, b2, a1, a2
(10_state.md R31). -/
structure Coefs where
  b0 : Word
  b1 : Word
  b2 : Word
  a1 : Word
  a2 : Word
  deriving DecidableEq, Repr

/-- The identity section, the reset coefficients (R36). -/
def Coefs.identity : Coefs := ⟨Config.one, Config.zero, Config.zero, Config.zero, Config.zero⟩

/-- The two delay values of one section on one channel, `Z[c][s][0]` and `Z[c][s][1]` (R33). -/
structure Delay where
  z1 : Word
  z2 : Word
  deriving DecidableEq, Repr

/-- A cleared section state. -/
def Delay.zero : Delay := ⟨Config.zero, Config.zero⟩

/-- A sample store, `BUF` or `DRY` (R34, R35): the words that are not `+0.0`, each with its word key
(log 9), keys strictly rising. The spec has no byte address (20_memory.md R52): the smallest
addressable unit is the 32-bit word. -/
abbrev Mem := List (Nat × Word)

/-- A response `{ERR, DATA}` (30_encoding.md R71). -/
structure Response where
  err : Bool
  data : Word
  deriving DecidableEq, Repr

/-- What the host can do to the block. -/
inductive HostInput
  /-- A command word presented on the command port (00_scope.md R6). -/
  | command (w : CmdWord)
  /-- The hardware reset input is asserted (70_reset_and_hazards.md R250). -/
  | hardReset
  deriving DecidableEq, Repr

/-- The state of the machine. The fields from `par` to `dry` are those of 10_state.md R20; `inp` and
`resps` are the two ports (log 1, 2); `freeIx` is the model's own (log 5). -/
structure State where
  /-- `PAR[0..12]`, the parameter store. -/
  par : Vector Word 13
  /-- `PREPARED`. -/
  prepared : Bool
  /-- `FS`. -/
  fs : Word
  /-- `NCH`. -/
  nch : BitVec 2
  /-- `MAXBLK`. -/
  maxblk : BitVec 16
  /-- `DIRTY`. -/
  dirty : Bool
  /-- `FAULT`. -/
  fault : Bool
  /-- `CAUSE`. -/
  cause : BitVec 4
  /-- `FINFO`. -/
  finfo : CmdWord
  /-- `COEF[0..8]`. -/
  coef : Vector Coefs 9
  /-- `ACT[0..8]`. -/
  act : Vector Bool 9
  /-- `PREG`. -/
  preg : Word
  /-- `BIASR`. -/
  biasr : Word
  /-- `AMTR`. -/
  amtr : Word
  /-- `KINDR`. -/
  kindr : BitVec 4
  /-- `POSTG`. -/
  postg : Word
  /-- `MIXT`. -/
  mixt : Word
  /-- `MIXCUR`. -/
  mixcur : Word
  /-- `Z[c][s]`. -/
  z : Vector (Vector Delay 9) 2
  /-- `BUF`. -/
  buf : Mem
  /-- `DRY`. -/
  dry : Mem
  /-- Host inputs presented and not yet taken, oldest first. -/
  inp : List HostInput
  /-- Responses given so far, oldest first. -/
  resps : List Response
  /-- The number of the next free value. -/
  freeIx : Nat
  deriving DecidableEq, Repr

/-- A reason for the machine to stop with a fault. There is none: "Every command is total on every
state ... There is no stuck state and no command that fails to answer" (00_scope.md R14). The
faults of 60_exceptions.md are NEXT states with `FAULT`, `CAUSE` and `FINFO` written. Safe: no
behaviour of the block is cut off (log 19). -/
inductive Fault
  deriving DecidableEq, Repr

/-- A reason to refuse a step. -/
inductive Refusal
  /-- An instruction without a meaning. Raised by nothing: every command has its meaning, and the
  refusal of 60_exceptions.md R228 is a NEXT state that answers `ERR`. Safe (log 19). -/
  | notModelled (mnemonic : String)
  deriving DecidableEq, Repr

/-- The activity bits after reset: sections 0, 4 and 5 (R36). -/
def actReset : Vector Bool 9 := #v[true, false, false, false, true, true, false, false, false]

/-- All section state cleared (R33). -/
def zCleared : Vector (Vector Delay 9) 2 := Vector.replicate 2 (Vector.replicate 9 Delay.zero)

/-- The state right after reset (10_state.md R36) of an instance with these values of `DEFAULT`, with
nothing presented and nothing answered. `BUF` and `DRY` list nothing (log 7). -/
def State.resetWith (defaults : Vector Word 13) : State where
  par := defaults
  prepared := false
  fs := Config.zero
  nch := 0
  maxblk := 0
  dirty := true
  fault := false
  cause := 0
  finfo := 0
  coef := Vector.replicate 9 Coefs.identity
  act := actReset
  preg := Config.one
  biasr := Config.zero
  amtr := Config.zero
  kindr := 0
  postg := Config.one
  mixt := Config.one
  mixcur := Config.one
  z := zCleared
  buf := []
  dry := []
  inp := []
  resps := []
  freeIx := 0

/-- The state right after reset of the reference instance. -/
def State.reset : State := State.resetWith Config.defaults

end Sys2Proof.Machine
end

