-- ==== Sys2Proof/Machine/Flags.lean ====
section
/-! DEFINITION. The status flags, the fault causes and the system registers, which are views of
state (10_state.md R27, R30; 60_exceptions.md R221). The block has no arithmetic condition codes. -/

namespace Sys2Proof.Machine

/-- The four fault causes (60_exceptions.md R221). -/
inductive Cause
  /-- `E_ILLEGAL`. -/
  | illegal
  /-- `E_UNPREPARED`. -/
  | unprepared
  /-- `E_PREPARE`. -/
  | prepare
  /-- `E_INDEX`. -/
  | index
  deriving DecidableEq, Repr

/-- The cause code (R221). -/
def Cause.code : Cause → BitVec 4
  | .illegal => 1
  | .unprepared => 2
  | .prepare => 3
  | .index => 4

/-- A flag widened to 32 bits (42_parameter_ops.md R132). -/
def flagWord (b : Bool) : Word := BitVec.setWidth 32 (BitVec.ofBool b)

/-- `SR[0]`, `STATUS` (R30). -/
def statusWord (s : State) : Word :=
  0#24 ++ s.cause ++ 0#1 ++ BitVec.ofBool s.dirty ++ BitVec.ofBool s.fault ++ BitVec.ofBool s.prepared

/-- `SR[1]`, `FINFO_LO` (R30). -/
def finfoLo (s : State) : Word := s.finfo.extractLsb' 0 32

/-- `SR[2]`, `FINFO_HI` (R30). -/
def finfoHi (s : State) : Word := s.finfo.extractLsb' 32 32

/-- `SR[4]`, `GEOM` (R30). -/
def geomWord (s : State) : Word := s.maxblk ++ 0#14 ++ s.nch

/-- The nine activity bits as one field, bit s being `ACT[s]` (R30). -/
def actBits (v : Vector Bool 9) : BitVec 9 :=
  BitVec.ofBool v[8] ++ BitVec.ofBool v[7] ++ BitVec.ofBool v[6] ++ BitVec.ofBool v[5]
    ++ BitVec.ofBool v[4] ++ BitVec.ofBool v[3] ++ BitVec.ofBool v[2] ++ BitVec.ofBool v[1]
    ++ BitVec.ofBool v[0]

/-- `SR[5]`, `ACTIVE` (R30). -/
def activeWord (s : State) : Word := 0#16 ++ s.kindr ++ 0#3 ++ actBits s.act

/-- `SR[12]`, `IMPL` (R30): 0x09011000 for the reference instance. -/
def implWord (P : Params) : Word :=
  BitVec.ofNat 8 P.nkind ++ BitVec.ofNat 8 Config.version ++ BitVec.ofNat 16 P.bufcap

/-- `SR[r]` (R30); 0 for a number above 12, which no command reads (42_parameter_ops.md R135). -/
def sysReg (P : Params) (r : Nat) (s : State) : Word :=
  match r with
  | 0 => statusWord s
  | 1 => finfoLo s
  | 2 => finfoHi s
  | 3 => s.fs
  | 4 => geomWord s
  | 5 => activeWord s
  | 6 => s.preg
  | 7 => s.biasr
  | 8 => s.amtr
  | 9 => s.postg
  | 10 => s.mixt
  | 11 => s.mixcur
  | 12 => implWord P
  | _ => Config.zero

end Sys2Proof.Machine
end

