-- ==== Sys2Proof/Machine/Numerics.lean ====
section
/-! DEFINITION. IEEE 754 binary32 arithmetic on words (40_numerics.md R90 to R100) and the clamps that
are built from its comparisons (R108 to R110). A finite value
is a whole multiple of 2^-149; every primitive computes the exact rational result in that unit and
rounds it once, to nearest, ties to even (R91). The argument `k` of a primitive names the place
where it is performed; only the free NaN of R98 depends on it (log 6). -/

namespace Sys2Proof.Machine

/-- A place an operation is performed at: the number of the command, then a path in its formula. -/
abbrev Site := List Nat

/-! ## Fields and classes (R90, R97) -/

/-- The sign bit. -/
def signBit (a : Word) : Bool := a.msb
/-- The biased exponent, bits 30..23. -/
def expo (a : Word) : Nat := (a.extractLsb' 23 8).toNat
/-- The fraction, bits 22..0. -/
def frac (a : Word) : Nat := (a.extractLsb' 0 23).toNat

/-- A NaN: exponent 255 and a fraction that is not 0 (R97). -/
def isNaN (a : Word) : Bool := expo a == 255 && frac a != 0
/-- Not an infinity and not a NaN (R97). -/
def isFinite (a : Word) : Bool := expo a != 255
/-- An infinity (R90). -/
def isInf (a : Word) : Bool := expo a == 255 && frac a == 0

/-- The magnitude of a value that is not a NaN, in units of 2^-149. An infinity gets 2^277, above
every finite magnitude, so that comparisons order it. -/
def mag (a : Word) : Nat :=
  if expo a = 0 then frac a else (2 ^ 23 + frac a) * 2 ^ (expo a - 1)

/-- A zero of either sign (R90). -/
def isZero (a : Word) : Bool := mag a == 0

/-- The value of a word that is not a NaN, in units of 2^-149, both zeros being 0. -/
def value (a : Word) : Int := if signBit a then -(mag a : Int) else (mag a : Int)

/-- One unit in the last place of a finite value, in units of 2^-149. -/
def ulp (a : Word) : Nat := 2 ^ (max (expo a) 1 - 1)

/-! ## Rounding (R91) -/

/-- `p / q` rounded to the nearest integer, ties to the even one. -/
def roundHalfEven (p q : Nat) : Nat :=
  if 2 * (p % q) > q || (2 * (p % q) == q && p / q % 2 == 1) then p / q + 1 else p / q

/-- The pattern, less its sign, of the value `p / q` units of 2^-149 rounded to S: the significand is
kept to 24 bits (fewer below the normal range), and what rounds past the largest finite value is
the infinity 0x7F800000 (R92, log 17). -/
def roundMag (p q : Nat) : Nat :=
  let shift := Nat.log2 (p / q) - 23
  min 0x7F800000 (shift * 2 ^ 23 + roundHalfEven p (q * 2 ^ shift))

/-- The word with this sign bit and this pattern below it. -/
def withSign (neg : Bool) (m : Nat) : Word := BitVec.ofBool neg ++ BitVec.ofNat 31 m

/-- The rational `p / q` units of 2^-149 with this sign, rounded to S. -/
def roundTo (neg : Bool) (p q : Nat) : Word := withSign neg (roundMag p q)

/-- The infinity of a sign. -/
def infinity (neg : Bool) : Word := withSign neg 0x7F800000

/-- The zero of a sign. -/
def zeroOf (neg : Bool) : Word := withSign neg 0

/-- A word that is a NaN: the given one if it is, else a fixed one. -/
def asNaN (v : Word) : Word := if isNaN v then v else 0x7FC00000#32

/-- The NaN that a primitive performed at place `k` results in: any pattern with exponent 255 and a
fraction that is not 0, "chosen freely at each operation" (R98, U1). -/
def freeNaN (k : Site) : Word := asNaN (Config.nanBits k)

/-! ## Arithmetic (R92 to R96) -/

/-- `fneg`: bit 31 inverted (R94). -/
def fneg (a : Word) : Word := a ^^^ 0x80000000#32

/-- `fabs`: bit 31 cleared (R94). -/
def fabs (a : Word) : Word := a &&& 0x7FFFFFFF#32

/-- `fadd` (R92). -/
def fadd (k : Site) (a b : Word) : Word :=
  if isNaN a || isNaN b then freeNaN k
  else if isInf a then (if isInf b && signBit a != signBit b then freeNaN k else a)
  else if isInf b then b
  else
    let sum := value a + value b
    if sum = 0 then zeroOf (isZero a && isZero b && signBit a && signBit b)
    else roundTo (decide (sum < 0)) sum.natAbs 1

/-- `fsub(a, b) = fadd(a, fneg(b))` (R92). -/
def fsub (k : Site) (a b : Word) : Word := fadd k a (fneg b)

/-- `fmul` (R92). -/
def fmul (k : Site) (a b : Word) : Word :=
  let neg := signBit a != signBit b
  if isNaN a || isNaN b then freeNaN k
  else if isInf a || isInf b then (if isZero a || isZero b then freeNaN k else infinity neg)
  else roundTo neg (mag a * mag b) (2 ^ 149)

/-- `fdiv` (R92). -/
def fdiv (k : Site) (a b : Word) : Word :=
  let neg := signBit a != signBit b
  if isNaN a || isNaN b then freeNaN k
  else if isInf a then (if isInf b then freeNaN k else infinity neg)
  else if isInf b then zeroOf neg
  else if isZero b then (if isZero a then freeNaN k else infinity neg)
  else roundTo neg (mag a * 2 ^ 149) (mag b)

/-- Bits `i - 1 .. 0` of an integer square root whose higher bits are `r`. -/
def sqrtBits (n : Nat) : Nat → Nat → Nat
  | 0, r => r
  | i + 1, r => if (r + 2 ^ i) * (r + 2 ^ i) ≤ n then sqrtBits n i (r + 2 ^ i) else sqrtBits n i r

/-- The integer square root of a number below 2^428. -/
def isqrt (n : Nat) : Nat := sqrtBits n 214 0

/-- `fsqrt` (R93). The root of a finite positive value has at least 75 bits above the unit, so one
sticky bit below the integer root decides its rounding. -/
def fsqrt (k : Site) (a : Word) : Word :=
  if isNaN a then freeNaN k
  else if isZero a then a
  else if signBit a then freeNaN k
  else if isInf a then a
  else
    let n := mag a * 2 ^ 149
    let r := isqrt n
    roundTo false (2 * r + (if r * r = n then 0 else 1)) 2

/-- `frint`: the nearest integer value, ties to even, of the operand's sign; infinities and NaN are
returned unchanged (R95). -/
def frint (a : Word) : Word :=
  if isFinite a then roundTo (signBit a) (roundHalfEven (mag a) (2 ^ 149) * 2 ^ 149) 1 else a

/-- `u2f` (R96). -/
def u2f (n : Nat) : Word := roundTo false (n * 2 ^ 149) 1

/-! ## Comparisons (R97) -/

/-- `flt`: less than; false when an operand is a NaN. -/
def flt (a b : Word) : Bool := !isNaN a && !isNaN b && decide (value a < value b)
/-- `fle`: at most; false when an operand is a NaN. -/
def fle (a b : Word) : Bool := !isNaN a && !isNaN b && decide (value a ≤ value b)
/-- `fgt`: greater than. -/
def fgt (a b : Word) : Bool := flt b a
/-- `fge`: at least. -/
def fge (a b : Word) : Bool := fle b a
/-- `feq`: equal in value, the two zeros being equal; false when an operand is a NaN. -/
def feq (a b : Word) : Bool := !isNaN a && !isNaN b && decide (value a = value b)

/-- The value lies in the closed range, and so is not a NaN. -/
def within (lo hi v : Word) : Bool := fle lo v && fle v hi

/-! ## Clamps (R108 to R110) -/

/-- `sat1`, the output clamp of the waveshaper (R108). -/
def sat1 (v : Word) : Word :=
  if isNaN v then Config.zero
  else if fgt v Config.one then Config.one
  else if flt v Config.negOne then Config.negOne
  else v

/-- `clampF`, the clamp of a float-typed parameter (R109). -/
def clampF (v lo hi dflt : Word) : Word :=
  if isNaN v then dflt
  else if flt v lo then lo
  else if fgt v hi then hi
  else v

/-- `clampU` on unsigned integers (R110). -/
def clampU (u hi : Nat) : Nat := if u > hi then hi else u

end Sys2Proof.Machine
end

