-- ==== Sys2Proof/Machine/Operands.lean ====
section
/-! DEFINITION. How operand values are checked and used: the index and argument checks of the
commands (60_exceptions.md R223 to R225), the selection of a kind (40_numerics.md R110), and the word
key of a sample (log 9). -/

namespace Sys2Proof.Machine

/-! ## Selection -/

/-- `kindsel`: an unrecognised kind falls back to kind 0 (R110, with `NKIND` = 9). -/
def kindsel (P : Params) (u : Nat) : Nat := if u ≥ P.nkind then 0 else u

/-! ## Checks -/

/-- A parameter number in range (R224). -/
def parIndexOk (P : Params) (p : Nat) : Bool := decide (p < P.npar)

/-- A system register number in range (R224). -/
def srIndexOk (r : Nat) : Bool := decide (r < Config.nsr)

/-- A section and a coefficient index in range (R224). -/
def coefIndexOk (P : Params) (s k : Nat) : Bool := decide (s < P.nsec) && decide (k < 5)

/-- A channel and a sample index within the session (R224). -/
def sampleIndexOk (c i : Nat) (s : State) : Bool :=
  decide (c < s.nch.toNat) && decide (i < s.maxblk.toNat)

/-- A block length within the session (R224). -/
def lengthOk (n : Nat) (s : State) : Bool := decide (n ≤ s.maxblk.toNat)

/-- Legal arguments of `PREPARE` (41_session_ops.md R122, R225, with `NCH_MAX` = 2). -/
def prepareArgsOk (P : Params) (nch maxblk : Nat) (fs : Word) : Bool :=
  (decide (1 ≤ nch) && decide (nch ≤ P.nchMax))
    && !(decide (maxblk = 0) || decide (maxblk > P.bufcap))
    && !(isNaN fs || flt fs P.fs.lo || fgt fs P.fs.hi)

/-! ## Sample addresses -/

/-- The word key of `BUF[c][i]` and `DRY[c][i]`: distinct for distinct (c, i) with i a 16-bit index
(log 9). -/
def sampleKey (c i : Nat) : Nat := c * 65536 + i

/-- The keys of the words built: `NCH_MAX` channels of `BUFCAP` samples (20_memory.md R50). -/
def isSampleKey (P : Params) (key : Nat) : Bool :=
  decide (key / 65536 < P.nchMax) && decide (key % 65536 < P.bufcap)

end Sys2Proof.Machine
end

