-- ==== Sys2Proof/Machine/Ops.lean ====
section
/-! DEFINITION. The named operations over the sample stores and the registers, fault entry, refusal
and reset (60_exceptions.md R226 to R232), and the order in which a command is checked
(30_encoding.md R77). -/

namespace Sys2Proof.Machine

/-! ## Sample stores -/

/-- The word at a key; an unlisted word reads as `+0.0` (log 7). -/
def Mem.read : Mem → Nat → Word
  | [], _ => Config.zero
  | (a, v) :: m, k => if a = k then v else Mem.read m k

/-- The store with one word written, in canonical form again. -/
def Mem.write : Mem → Nat → Word → Mem
  | [], k, v => if v = Config.zero then [] else [(k, v)]
  | (a, x) :: m, k, v =>
    if k < a then (if v = Config.zero then (a, x) :: m else (k, v) :: (a, x) :: m)
    else if k = a then (if v = Config.zero then m else (k, v) :: m)
    else (a, x) :: Mem.write m k v

/-- The canonical form: keys strictly rising, no entry equal to what an unlisted word reads as. -/
abbrev Mem.wf (m : Mem) : Prop :=
  m.Pairwise (fun x y => x.1 < y.1) ∧ ∀ e ∈ m, e.2 ≠ Config.zero

/-- The store with these words at built keys written one after another, and `+0.0` elsewhere: any
contents of the words built, by a choice of the list. -/
def Mem.ofWords (P : Params) (words : List (Nat × Word)) : Mem :=
  words.foldl (fun m e => if isSampleKey P e.1 then m.write e.1 e.2 else m) []

/-! ## Registers and stores of the state -/

/-- `PAR[p]`. -/
def State.getPar (s : State) (p : Nat) : Word := s.par[p]?.getD Config.zero

/-- `PAR[p] <- v`. -/
def State.setPar (s : State) (p : Nat) (v : Word) : State := { s with par := s.par.setIfInBounds p v }

/-- `DIRTY <- b`. -/
def State.setDirty (s : State) (b : Bool) : State := { s with dirty := b }

/-- `COEF[n]`, all five. -/
def State.getCoef (s : State) (n : Nat) : Coefs := s.coef[n]?.getD Coefs.identity

/-- `COEF[n] <- c`, all five. -/
def State.setCoef (s : State) (n : Nat) (c : Coefs) : State :=
  { s with coef := s.coef.setIfInBounds n c }

/-- Coefficient k of a section: 0 is b0, 1 is b1, 2 is b2, 3 is a1, 4 is a2 (10_state.md R31). -/
def Coefs.get (c : Coefs) (k : Nat) : Word :=
  match k with
  | 0 => c.b0
  | 1 => c.b1
  | 2 => c.b2
  | 3 => c.a1
  | 4 => c.a2
  | _ => Config.zero

/-- `ACT[n]`. -/
def State.getAct (s : State) (n : Nat) : Bool := s.act[n]?.getD false

/-- `ACT[n] <- b`. -/
def State.setAct (s : State) (n : Nat) (b : Bool) : State :=
  { s with act := s.act.setIfInBounds n b }

/-- The delay values of all sections of channel `c`. -/
def State.getZ (s : State) (c : Nat) : Vector Delay 9 := s.z[c]?.getD (Vector.replicate 9 Delay.zero)

/-- The delay values of all sections of channel `c`, written. -/
def State.setZ (s : State) (c : Nat) (zs : Vector Delay 9) : State :=
  { s with z := s.z.setIfInBounds c zs }

/-- `BUF[c][i]`. -/
def State.getBuf (s : State) (c i : Nat) : Word := s.buf.read (sampleKey c i)

/-- `BUF[c][i] <- v`. -/
def State.setBuf (s : State) (c i : Nat) (v : Word) : State :=
  { s with buf := s.buf.write (sampleKey c i) v }

/-- `DRY[c][i]`. -/
def State.getDry (s : State) (c i : Nat) : Word := s.dry.read (sampleKey c i)

/-- `DRY[c][i] <- v`. -/
def State.setDry (s : State) (c i : Nat) (v : Word) : State :=
  { s with dry := s.dry.write (sampleKey c i) v }

/-- The next number of a free value, spent (log 5). -/
def State.draw (s : State) : State := { s with freeIx := s.freeIx + 1 }

/-- The place of the command that is being executed, for the free values it draws (log 5). -/
def State.site (s : State) : Site := [s.freeIx]

/-! ## Responses (30_encoding.md R71) -/

/-- `OK(v)`. -/
def Response.ok (v : Word) : Response := ⟨false, v⟩

/-- `ERR`. -/
def Response.error : Response := ⟨true, 0⟩

/-- The response of the command, given. -/
def State.respond (s : State) (r : Response) : State := { s with resps := s.resps ++ [r] }

/-! ## Fault entry, refusal, reset -/

/-- Fault entry, `raise <Cause>(w)` (60_exceptions.md R226). Nothing else is written (R227). -/
def State.raise (s : State) (c : Cause) (w : CmdWord) : State :=
  State.respond { s with fault := true, cause := c.code, finfo := w } Response.error

/-- Refusal while `FAULT = 1`: `ERR`, and the record of the first fault stays (R228). -/
def State.refuse (s : State) : State := s.respond Response.error

/-- Reset, by the input or by the command: the only way out of a fault (R232). Every piece of state
gets the value of 10_state.md R36; `BUF` and `DRY`, unspecified there, get free words (log 8). The
ports are not state of the block and keep what they hold. -/
def State.resetBlock (P : Params) (s : State) : State :=
  { State.resetWith P.defaults with
    buf := Mem.ofWords P (Config.bufAfterReset s.freeIx)
    dry := Mem.ofWords P (Config.dryAfterReset s.freeIx)
    inp := s.inp
    resps := s.resps
    freeIx := s.freeIx + 1 }

/-! ## The order of checking (30_encoding.md R77) -/

/-- The cause of the first condition in the list that does not hold (60_exceptions.md R229). -/
def firstFault : List (Bool × Cause) → Option Cause
  | [] => none
  | (holds, c) :: rest => if holds then firstFault rest else some c

/-- A command on a decoded word: refused while `FAULT = 1`; else the fault of its first failed check,
with its word in `FINFO`; else its effect `done` and the answer `OK(data)` (R77). -/
def runCommand (i : Instr) (checks : List (Bool × Cause)) (done : State) (data : Word) (s : State) :
    State :=
  if s.fault then s.refuse
  else
    match firstFault checks with
    | some c => s.raise c (encode i)
    | none => done.respond (.ok data)

/-- An illegal word: refused while `FAULT = 1`, else `E_ILLEGAL` (R75, R77). -/
def illegalWord (w : CmdWord) (s : State) : State :=
  if s.fault then s.refuse else s.raise .illegal w

end Sys2Proof.Machine
end

