-- ==== Sys2Proof/Machine/Transcendental.lean ====
section
/-! DEFINITION. The four transcendental functions of an instance (40_numerics.md R103 to R107). The
spec fixes each only up to its contract, so each is a free function that keeps the contract (log 10):
the correctly rounded exact value is computed in fixed point, an opaque word of Config, XORed into
its bits, gives the instance's own result, and the result counts only if it keeps the contract.
Every function that keeps the contract is reached by some choice of that opaque word, and the choice
0 is the reference choice of R103. Each result depends on the operand's bits alone (R103 (a)). -/

namespace Sys2Proof.Machine

/-! ## Fixed point: integers in units of 2^-533, so that a unit of `mag` is 2^384 -/

/-- Fraction bits of a fixed-point value. -/
def fixBits : Nat := 533

/-- 1 in fixed point. -/
def fixOne : Int := 2 ^ fixBits

/-- pi in fixed point. -/
def fixPi : Int :=
  0x6487ed5110b4611a62633145c06e0e68948127044533e63a0105df531d89cd9128a5043cc71a026ef7ca8cd9e69d218d98158536f92f8a1ba7f09ab6b6a8e122f242db

/-- The natural logarithm of 10 in fixed point. -/
def fixLn10 : Int :=
  0x49aec6eed554560b752b6b15c16985147147f67ced2efc8741e30f4100f816b94b17816bd8d4082e663865e0162f86b41631120c2085f16d7dc7bc4201728b6b3c167c

/-- The exact value of a finite word in fixed point. -/
def toFix (a : Word) : Int := value a * 2 ^ 384

/-- A fixed-point value rounded to S (R91). -/
def roundFix (x : Int) : Word := roundTo (decide (x < 0)) x.natAbs (2 ^ 384)

/-- The terms `r^j / j!` of the exponential series from the j-th on, `t` being the j-th. -/
def seriesTerms (r : Int) : Nat → Nat → Int → List Int
  | 0, _, _ => []
  | fuel + 1, j, t => t :: seriesTerms r fuel (j + 1) (t * r / (fixOne * ((j : Int) + 1)))

/-- The sum of the terms. -/
def sumAll : List Int → Int
  | [] => 0
  | t :: ts => t + sumAll ts

/-- First, minus third, plus fifth, and so on. -/
def sumAlternating : List Int → Int
  | [] => 0
  | [t] => t
  | t :: _ :: ts => t - sumAlternating ts

/-- The number of quarter turns nearest to `x`. -/
def quarterTurns (x : Int) : Int := (4 * x + fixPi) / (2 * fixPi)

/-- The terms at `x` less its quarter turns, an argument of magnitude at most pi / 4. -/
def reducedTerms (x : Int) : List Int :=
  seriesTerms (x - quarterTurns x * fixPi / 2) 128 0 fixOne

/-- The sine of a fixed-point value. -/
def fixSin (x : Int) : Int :=
  let ts := reducedTerms x
  match (quarterTurns x % 4).toNat with
  | 0 => sumAlternating ts.tail
  | 1 => sumAlternating ts
  | 2 => -sumAlternating ts.tail
  | _ => -sumAlternating ts

/-- The cosine of a fixed-point value. -/
def fixCos (x : Int) : Int :=
  let ts := reducedTerms x
  match (quarterTurns x % 4).toNat with
  | 0 => sumAlternating ts
  | 1 => -sumAlternating ts.tail
  | 2 => -sumAlternating ts
  | _ => sumAlternating ts.tail

/-- The tangent of a fixed-point value whose cosine is not 0. -/
def fixTan (x : Int) : Int := fixSin x * fixOne / fixCos x

/-- 10^(d / 20) of a fixed-point value. -/
def fixDb2lin (d : Int) : Int :=
  sumAll (seriesTerms (d * fixLn10 / (20 * fixOne)) 192 0 fixOne)

/-! ## The contracts -/

/-- The finite word `v` differs from the fixed-point value by at most `tol`. The 2^-470 added covers
the error of the fixed-point value itself, so that no conforming result is shut out; it is below the
distance of x^3 / 6 that parts sin x from x at the smallest operand, so that no other is let in
(log 10). -/
def near (v : Word) (x tol : Int) : Bool :=
  isFinite v && decide (((toFix v - x).natAbs : Int) ≤ tol + 2 ^ 63)

/-- The instance's result: the reference value with the instance's difference, if that is within
`tol v` of the exact value; else the reference value. -/
def contractual (delta : Word) (exact : Int) (tol : Word → Int) : Word :=
  let v := roundFix exact ^^^ delta
  if near v exact (tol v) then v else roundFix exact

/-- One unit in the last place of the result, in fixed point. -/
def ulpTol (v : Word) : Int := (ulp v : Int) * 2 ^ 384

/-- 2^-13. -/
def tanDomainMin : Word := 0x39000000#32
/-- 1.4375. -/
def tanDomainMax : Word := 0x3FB80000#32
/-- 2^-14, below every tangent of the domain. -/
def tanLow : Word := 0x38800000#32
/-- 8.0, above every tangent of the domain. -/
def tanHigh : Word := Config.eight

/-- `f_tan` (R104). On [2^-13, 1.4375] the result is finite, positive and within one unit in the last
place of the tangent; it therefore lies in [2^-14, 8], so the clamp to that range changes no result and
only puts the range on record (log 10). Outside it is any word, fixed for the operand (R103 (c),
log 11). -/
def f_tan (x : Word) : Word :=
  if within tanDomainMin tanDomainMax x then
    clampF (contractual (Config.tanDelta x) (fixTan (toFix x)) ulpTol) tanLow tanHigh Config.one
  else Config.tanDelta x

/-- 4.0, the end of the range in which `f_sin` and `f_cos` are accurate to the last place (R105). -/
def trigFine : Word := 0x40800000#32
/-- 8192.0, the end of the range in which `f_sin` and `f_cos` are accurate to 2^-22 (R105). -/
def trigCoarse : Word := 0x46000000#32
/-- 3.0, below pi: the sine of a positive operand up to here is positive. -/
def sinePositiveTo : Word := 0x40400000#32

/-- The least value of the sine of a positive operand: 0 up to 3.0, else -1. -/
def sineLow (x : Word) : Word := if fle x sinePositiveTo then Config.zero else Config.negOne

/-- The sine of a positive finite operand (R105). The exact sine lies in the range of the clamp, so a
result outside it moves towards the exact sine, to the nearer end (log 10). Beyond 8192 the rule fixes
the range only: the free word is clamped to it, a NaN giving 1.0 (log 11). -/
def sinOfPositive (x : Word) : Word :=
  let v :=
    if fle x trigFine then contractual (Config.sinDelta x) (fixSin (toFix x)) ulpTol
    else if fle x trigCoarse then
      contractual (Config.sinDelta x) (fixSin (toFix x)) (fun _ => 2 ^ (fixBits - 22))
    else Config.sinDelta x
  clampF v (sineLow x) Config.one Config.one

/-- `f_sin` (R105): exact at the zeros, odd, a NaN, fixed for the operand (log 12), at an infinity or a NaN. -/
def f_sin (x : Word) : Word :=
  if isFinite x then
    if isZero x then x
    else if signBit x then fneg (sinOfPositive (fabs x)) else sinOfPositive x
  else asNaN (Config.sinDelta x)

/-- The cosine of a positive finite operand (R106), clamped to [-1, 1] as the sine is. -/
def cosOfPositive (x : Word) : Word :=
  let v :=
    if fle x trigFine then
      contractual (Config.cosDelta x) (fixCos (toFix x)) (fun v => max (ulpTol v) (2 ^ (fixBits - 24)))
    else if fle x trigCoarse then
      contractual (Config.cosDelta x) (fixCos (toFix x)) (fun _ => 2 ^ (fixBits - 22))
    else Config.cosDelta x
  clampF v Config.negOne Config.one Config.one

/-- `f_cos` (R106): 1.0 at the zeros, even, a NaN, fixed for the operand (log 12), at an infinity or a NaN. -/
def f_cos (x : Word) : Word :=
  if isFinite x then (if isZero x then Config.one else cosOfPositive (fabs x))
  else asNaN (Config.cosDelta x)

/-- -36.0. -/
def dbDomainMin : Word := 0xC2100000#32
/-- 36.0. -/
def dbDomainMax : Word := 0x42100000#32
/-- 2^-7, below 10^(-36/20). -/
def linearLow : Word := 0x3C000000#32
/-- 64.0, above 10^(36/20). -/
def linearHigh : Word := Config.sixtyFour

/-- `f_db2lin` (R107): 1.0 at the zeros; for -36 <= d <= 36 finite, positive and within one unit in
the last place of 10^(d/20), and therefore in [2^-7, 64], the range of the clamp (log 10). Outside it is any word, fixed for
the operand (R103 (c), log 11). -/
def f_db2lin (d : Word) : Word :=
  if within dbDomainMin dbDomainMax d then
    if isZero d then Config.one
    else
      clampF (contractual (Config.db2linDelta d) (fixDb2lin (toFix d)) ulpTol) linearLow linearHigh
        Config.one
  else Config.db2linDelta d

end Sys2Proof.Machine
end

