-- ==== Sys2Proof/Machine/Waveshaper.lean ====
section
/-! DEFINITION. The waveshaper's nine kinds (44_waveshaper.md R170 to R182): the transfer functions of
the reference instance, each with `sat1` as its last step (R172). They take the instance's `f_sin` and
`f_cos`. Where a remark of a rule fails at a corner of the rule's own pseudocode, the model follows the
pseudocode (log 21). -/

namespace Sys2Proof.Machine

/-- The kinds, in the order of their numbers (10_state.md R24). -/
inductive Kind
  | hardclip | softclip | cracked | gnome | warm | quantize | fuzz | hollowing | rash
  deriving DecidableEq, Repr

/-- The number of a kind (R24). -/
def Kind.number : Kind → Nat
  | .hardclip => 0
  | .softclip => 1
  | .cracked => 2
  | .gnome => 3
  | .warm => 4
  | .quantize => 5
  | .fuzz => 6
  | .hollowing => 7
  | .rash => 8

/-- The kind a bound kind number selects; a number above 8, which no run binds, selects kind 0 as
`kindsel` does (R170, R182). -/
def Kind.ofNumber : Nat → Kind
  | 1 => .softclip
  | 2 => .cracked
  | 3 => .gnome
  | 4 => .warm
  | 5 => .quantize
  | 6 => .fuzz
  | 7 => .hollowing
  | 8 => .rash
  | _ => .hardclip

/-- `HARDCLIP` (R173). -/
def shapeHardclip (k : Site) (x a : Word) : Word :=
  let u := fsub (0 :: k) Config.one a
  let v := if isNaN x then x else if fgt x u then u else if flt x (fneg u) then fneg u else x
  sat1 v

/-- `SOFTCLIP` (R174). At a = 0 and an infinite sample it gives +0.0, as the rule says of an infinite
sample, and not the `sat1(x)` of its remark on a = 0 (log 21). -/
def shapeSoftclip (k : Site) (x a : Word) : Word :=
  let d := fdiv (0 :: k) (fmul (1 :: k) Config.two a) (fsub (2 :: k) Config.one a)
  sat1 (fdiv (3 :: k) (fmul (4 :: k) (fadd (5 :: k) Config.one d) x)
    (fadd (6 :: k) Config.one (fmul (7 :: k) d (fabs x))))

/-- `CRACKED` (R175). The remarks of R175 on a = 0 fail at an infinite sample, and its bound |x|^3 holds
up to rounding only (log 21). -/
def shapeCracked (cos : Word → Word) (k : Site) (x a : Word) : Word :=
  let cube := fmul (0 :: k) (fmul (1 :: k) x x) x
  let ph := fmul (2 :: k) (fmul (3 :: k) Config.pi32 a) x
  sat1 (fmul (4 :: k) cube (cos ph))

/-- `GNOME` (R176). DESIGN CHOICE, log 21: the remark that the magnitude is below 1 for finite x fails
where |x| + u rounds to |x| (x = 2^24, a = 0), and the pseudocode gives 1.0 there. -/
def shapeGnome (k : Site) (x a : Word) : Word :=
  let u := fsub (0 :: k) Config.one a
  sat1 (fdiv (1 :: k) x (fadd (2 :: k) (fabs x) u))

/-- `WARM` (R177). The remark on a = 0 fails at an infinite sample (log 21). -/
def shapeWarm (k : Site) (x a : Word) : Word :=
  if fge x Config.zero then
    sat1 (fdiv (0 :: k) (fmul (1 :: k) (fadd (2 :: k) Config.one a) x)
      (fadd (3 :: k) Config.one (fmul (4 :: k) a x)))
  else sat1 (fdiv (5 :: k) x (fsub (6 :: k) Config.one (fmul (7 :: k) a x)))

/-- `QUANTIZE` (R178). -/
def shapeQuantize (k : Site) (x a : Word) : Word :=
  let l := fmul (0 :: k) (fsub (1 :: k) Config.one a) Config.sixtyFour
  sat1 (fdiv (2 :: k) (frint (fmul (3 :: k) x l)) l)

/-- `FUZZ` (R179). -/
def shapeFuzz (sin : Word → Word) (k : Site) (x a : Word) : Word :=
  let ph := fmul (0 :: k) (fmul (1 :: k) Config.halfPi32 x)
    (fadd (2 :: k) Config.one (fmul (3 :: k) Config.eight a))
  sat1 (sin ph)

/-- `HOLLOWING` (R180). DESIGN CHOICE, log 21: at x = -0.0 and a = -0.0 (in range: R109) the pseudocode
gives -0.0, where R183 and the remark of R180 on a = 0 say +0.0; at a = 0 and a sample for which
pi x overflows it gives +0.0 and not `sat1(x)`. -/
def shapeHollowing (sin : Word → Word) (k : Site) (x a : Word) : Word :=
  sat1 (fsub (0 :: k) x (fmul (1 :: k) a (sin (fmul (2 :: k) Config.pi32 x))))

/-- `RASH` (R181). The remark on a = 0 fails where 512 x overflows (log 21). -/
def shapeRash (sin : Word → Word) (k : Site) (x a : Word) : Word :=
  let u := fsub (0 :: k) Config.one a
  if flt (fabs x) u then sat1 x
  else
    sat1 (fadd (1 :: k) x
      (fmul (2 :: k) (fmul (3 :: k) a Config.quarter) (sin (fmul (4 :: k) x Config.fiveTwelve))))

/-- `SHAPE[kind](x, a)` of the reference instance (R170): a nine-way case on the kind. -/
def shape (sin cos : Word → Word) (k : Site) (kind : Kind) (x a : Word) : Word :=
  match kind with
  | .hardclip => shapeHardclip k x a
  | .softclip => shapeSoftclip k x a
  | .cracked => shapeCracked cos k x a
  | .gnome => shapeGnome k x a
  | .warm => shapeWarm k x a
  | .quantize => shapeQuantize k x a
  | .fuzz => shapeFuzz sin k x a
  | .hollowing => shapeHollowing sin k x a
  | .rash => shapeRash sin k x a

end Sys2Proof.Machine
end

