-- ==== Sys2Proof/Machine/Reference.lean ====
section
/-! DEFINITION. The reference instance: the values that 00_scope.md R7 decides for the implementation
parameters, with transcendental functions that are free within their contracts (log 10). -/

namespace Sys2Proof

/-- The reference instance (R7). The place `[]` inside a waveshaper reaches no result: the sine
and the cosine send every NaN to a NaN (40_numerics.md R105, R106) and each kind ends in `sat1`, so a NaN
of any bits gives the same word (44_waveshaper.md R171, R172). -/
def Params.reference : Params where
  npar := Config.npar
  nkind := Config.nkind
  nsec := Config.nsec
  nchMax := Config.nchMax
  bufcap := Config.bufcap
  fs := ⟨Config.fsMin, Config.fsMax⟩
  freq := ⟨Config.freqMin, Config.freqMax⟩
  pkgain := ⟨Config.pkgainMin, Config.pkgainMax⟩
  q := ⟨Config.qMin, Config.qMax⟩
  gain := ⟨Config.gainMin, Config.gainMax⟩
  bias := ⟨Config.biasMin, Config.biasMax⟩
  amt := ⟨Config.amtMin, Config.amtMax⟩
  mix := ⟨Config.mixMin, Config.mixMax⟩
  defaults := Config.defaults
  makeup := Config.makeup
  invq := Config.invq
  tan := Machine.f_tan
  sin := Machine.f_sin
  cos := Machine.f_cos
  db2lin := Machine.f_db2lin
  shape := fun n => Machine.shape Machine.f_sin Machine.f_cos [] (Machine.Kind.ofNumber n)

end Sys2Proof
end

