-- ==== Sys2Proof/Machine/Parameters.lean ====
section
/-! DEFINITION. The parameter and status commands SETP, GETP, TCDIRTY, RDCOEF, RDSR
(42_parameter_ops.md R130 to R135). -/

namespace Sys2Proof.Machine

/-! ## In any instance -/

/-- `SETP p, v` (R130). -/
def runSetp (P : Params) (p : Nat) (v : Word) (s : State) : State :=
  runCommand (.setp p v) [(parIndexOk P p, .index)] ((s.setPar p v).setDirty true) 0 s

/-- `GETP p` (R131). -/
def runGetp (P : Params) (p : Nat) (s : State) : State :=
  runCommand (.getp p) [(parIndexOk P p, .index)] s (s.getPar p) s

/-- `TCDIRTY` (R132). -/
def runTcdirty (s : State) : State :=
  runCommand .tcdirty [] (s.setDirty false) (flagWord s.dirty) s

/-- `RDCOEF sec, k` (R134). -/
def runRdcoef (P : Params) (sec k : Nat) (s : State) : State :=
  runCommand (.rdcoef sec k) [(coefIndexOk P sec k, .index)] s ((s.getCoef sec).get k) s

/-- `RDSR r` (R135): executed also while `FAULT = 1` when r is in range, refused then when it is not
(60_exceptions.md R228). -/
def runRdsr (P : Params) (r : Nat) (s : State) : State :=
  if srIndexOk r then s.respond (.ok (sysReg P r s))
  else runCommand (.rdsr r) [(false, .index)] s 0 s

/-! ## The meanings, in the reference instance -/

/-- `SETP p, v` (R130). -/
def execSetp (p : Nat) (v : Word) (s : State) : Host.Outcome State Fault Refusal :=
  .next (runSetp .reference p v s)

/-- `GETP p` (R131). -/
def execGetp (p : Nat) (s : State) : Host.Outcome State Fault Refusal :=
  .next (runGetp .reference p s)

/-- `TCDIRTY` (R132). -/
def execTcdirty (s : State) : Host.Outcome State Fault Refusal := .next (runTcdirty s)

/-- `RDCOEF sec, k` (R134). -/
def execRdcoef (sec k : Nat) (s : State) : Host.Outcome State Fault Refusal :=
  .next (runRdcoef .reference sec k s)

/-- `RDSR r` (R135). -/
def execRdsr (r : Nat) (s : State) : Host.Outcome State Fault Refusal :=
  .next (runRdsr .reference r s)

end Sys2Proof.Machine
end

