-- ==== Sys2Proof/Machine/Chain.lean ====
section
/-! DEFINITION. The signal chain of one sample and the loop of one block (43_signal_chain.md R143 to
R153, 20_memory.md R64). -/

namespace Sys2Proof.Machine

/-! ## One section (R143) -/

/-- One step of a second-order section, transposed direct form II: the output and the new delay
values (R143). -/
def biquad (k : Site) (c : Coefs) (d : Delay) (x : Word) : Word × Delay :=
  let y := fadd (0 :: k) (fmul (1 :: k) c.b0 x) d.z1
  let z1 := fadd (2 :: k) (fsub (3 :: k) (fmul (4 :: k) c.b1 x) (fmul (5 :: k) c.a1 y)) d.z2
  let z2 := fsub (6 :: k) (fmul (7 :: k) c.b2 x) (fmul (8 :: k) c.a2 y)
  (y, ⟨z1, z2⟩)

/-- `Biquad(c, n, v)` on a sample and the delay values of its channel. -/
def sectionStep (k : Site) (s : State) (n : Nat) (v : Word × Vector Delay 9) :
    Word × Vector Delay 9 :=
  let r := biquad k (s.getCoef n) (v.2[n]?.getD Delay.zero) v.1
  (r.1, v.2.setIfInBounds n r.2)

/-! ## The chain (R144 to R151) -/

/-- `Cascade(c, base, v)`: the active sections in series; a bypassed one passes the 32 bits on and
keeps its delay values (R144 to R146). DESIGN CHOICE, log 22: so a non-finite delay value held only in
sections that a lower slope bypasses reaches no sample while they are bypassed, where
70_reset_and_hazards.md R257 (4) says that the wet path stays corrupted until `PREPARE` or `RESET`. -/
def cascade (k : Site) (s : State) (base : Nat) (v : Word × Vector Delay 9) :
    Word × Vector Delay 9 :=
  (List.range 4).foldl
    (fun v j => if s.getAct (base + j) then sectionStep (j :: k) s (base + j) v else v) v

/-- The stages after the filters: pre-gain, bias, waveshaper, makeup gain, post-gain (R148 to R151). -/
def shapeStages (P : Params) (k : Site) (s : State) (v3 : Word) : Word :=
  let v4 := fmul (0 :: k) v3 s.preg
  let v5 := fadd (1 :: k) v4 s.biasr
  let v6 := P.shape s.kindr.toNat v5 s.amtr
  let v7 := fmul (2 :: k) v6 (P.makeup s.kindr.toNat)
  fmul (3 :: k) v7 s.postg

/-- `ChainSample(c, x)` on the delay values of channel c: the wet sample and the new delay values
(R148). -/
def chainSample (P : Params) (k : Site) (s : State) (zs : Vector Delay 9) (x : Word) : Word × Vector Delay 9 :=
  let v1 := cascade (0 :: k) s 0 (x, zs)
  let v2 := sectionStep (1 :: k) s 4 v1
  let v3 := cascade (2 :: k) s 5 v2
  (shapeStages P (3 :: k) s v3.1, v3.2)

/-! ## The mixer (R152, R153) -/

/-- `Mix(dry, wet, m)` (R152). -/
def mix (k : Site) (dry wet m : Word) : Word :=
  fadd (0 :: k) (fmul (1 :: k) dry (fsub (2 :: k) Config.one m)) (fmul (3 :: k) wet m)

/-- The mix value of sample i of a block of n: `m0 + (MIXT - m0) * ((i + 1) / n)` in the primitives
and the order of R153. -/
def rampValue (k : Site) (m0 mixt : Word) (n i : Nat) : Word :=
  fadd (0 :: k) m0
    (fmul (1 :: k) (fsub (2 :: k) mixt m0) (fdiv (3 :: k) (u2f (i + 1)) (u2f n)))

/-! ## The block (R141, 20_memory.md R64) -/

/-- The copy of one channel to `DRY`, before any of its words is overwritten (R64). -/
def copyDry (c n : Nat) (s : State) : State :=
  (List.range n).foldl (fun s i => s.setDry c i (s.getBuf c i)) s

/-- One sample of channel c: the chain on `DRY[c][i]`, the mix, and the result to `BUF[c][i]`. -/
def sampleStep (P : Params) (k : Site) (c n : Nat) (m0 : Word) (s : State) (i : Nat) : State :=
  let x := s.getDry c i
  let wet := chainSample P (0 :: i :: c :: k) s (s.getZ c) x
  let m := rampValue (1 :: i :: c :: k) m0 s.mixt n i
  (s.setZ c wet.2).setBuf c i (mix (2 :: i :: c :: k) x wet.1 m)

/-- One channel of the block: the copy, then the samples in ascending order. -/
def processChannel (P : Params) (k : Site) (n : Nat) (m0 : Word) (s : State) (c : Nat) : State :=
  (List.range n).foldl (sampleStep P k c n m0) (copyDry c n s)

/-- The channels of the session in order, then `MIXCUR <- MIXT`, for a block that is not empty; an
empty one changes nothing (R141). -/
def processBlock (P : Params) (k : Site) (n : Nat) (s : State) : State :=
  if n = 0 then s
  else
    let t := (List.range s.nch.toNat).foldl (processChannel P k n s.mixcur) s
    { t with mixcur := t.mixt }

end Sys2Proof.Machine
end

