-- ==== Sys2Proof/Machine/Updater.lean ====
section
/-! DEFINITION. The coefficient updater (45_coefficient_update.md R190 to R204). -/

namespace Sys2Proof.Machine

/-! ## The snapshot (R191) -/

/-- The document's ParameterSnapshot: the 13 parameters, clamped to their ranges. -/
structure Snapshot where
  lcf : Word
  lcq : Nat
  pkf : Word
  pkg : Word
  pkq : Word
  hcf : Word
  hcq : Nat
  pre : Word
  bia : Word
  amt : Word
  knd : Nat
  pst : Word
  mix : Word
  deriving DecidableEq, Repr

/-- `Snapshot()`: the parameter store read once (R191). -/
def snapshot (P : Params) (s : State) : Snapshot where
  lcf := clampF (s.getPar 0) P.freq.lo P.freq.hi (P.default 0)
  lcq := clampU (s.getPar 1).toNat 3
  pkf := clampF (s.getPar 2) P.freq.lo P.freq.hi (P.default 2)
  pkg := clampF (s.getPar 3) P.pkgain.lo P.pkgain.hi (P.default 3)
  pkq := clampF (s.getPar 4) P.q.lo P.q.hi (P.default 4)
  hcf := clampF (s.getPar 5) P.freq.lo P.freq.hi (P.default 5)
  hcq := clampU (s.getPar 6).toNat 3
  pre := clampF (s.getPar 7) P.gain.lo P.gain.hi (P.default 7)
  bia := clampF (s.getPar 8) P.bias.lo P.bias.hi (P.default 8)
  amt := clampF (s.getPar 9) P.amt.lo P.amt.hi (P.default 9)
  knd := kindsel P (s.getPar 10).toNat
  pst := clampF (s.getPar 11) P.gain.lo P.gain.hi (P.default 11)
  mix := clampF (s.getPar 12) P.mix.lo P.mix.hi (P.default 12)

/-! ## The cut-filter cascades (R193 to R198) -/

/-- The two types of cut section. -/
inductive CutType
  | highpass | lowpass
  deriving DecidableEq, Repr

/-- `Section(highpass, g, d)` (R196). -/
def highpassSection (k : Site) (g d : Word) : Coefs :=
  let g2 := fmul (0 :: k) g g
  let c1 := fdiv (1 :: k) Config.one
    (fadd (2 :: k) (fadd (3 :: k) Config.one (fmul (4 :: k) d g)) g2)
  { b0 := c1
    b1 := fmul (5 :: k) c1 Config.negTwo
    b2 := c1
    a1 := fmul (6 :: k) (fmul (7 :: k) c1 Config.two) (fsub (8 :: k) g2 Config.one)
    a2 := fmul (9 :: k) c1
      (fadd (10 :: k) (fsub (11 :: k) Config.one (fmul (12 :: k) d g)) g2) }

/-- `Section(lowpass, g, d)` (R197). -/
def lowpassSection (k : Site) (g d : Word) : Coefs :=
  let n := fdiv (0 :: k) Config.one g
  let n2 := fmul (1 :: k) n n
  let c1 := fdiv (2 :: k) Config.one
    (fadd (3 :: k) (fadd (4 :: k) Config.one (fmul (5 :: k) d n)) n2)
  { b0 := c1
    b1 := fmul (6 :: k) c1 Config.two
    b2 := c1
    a1 := fmul (7 :: k) (fmul (8 :: k) c1 Config.two) (fsub (9 :: k) Config.one n2)
    a2 := fmul (10 :: k) c1
      (fadd (11 :: k) (fsub (12 :: k) Config.one (fmul (13 :: k) d n)) n2) }

/-- `Section(type, g, d)`. -/
def cutSection (k : Site) (t : CutType) (g d : Word) : Coefs :=
  match t with
  | .highpass => highpassSection k g d
  | .lowpass => lowpassSection k g d

/-- The warped cutoff `f_tan(fmul(PI32, fdiv(fc, FS)))` (R198). -/
def warpedCutoff (P : Params) (k : Site) (fc fs : Word) : Word :=
  P.tan (fmul (0 :: k) Config.pi32 (fdiv (1 :: k) fc fs))

/-- The activity bits of one cascade: section j is active iff j < n (R193). -/
def bindActive (base n : Nat) (s : State) : State :=
  (List.range 4).foldl (fun s j => s.setAct (base + j) (decide (j < n))) s

/-- The coefficients of the active sections of one cascade; a bypassed slot keeps its own (R194). -/
def bindSections (P : Params) (k : Site) (base n : Nat) (t : CutType) (g : Word) (s : State) : State :=
  (List.range n).foldl
    (fun s j => s.setCoef (base + j) (cutSection (j :: k) t g (P.invq n j))) s

/-- `BindCut(base, fc, q, type)` (R193). -/
def bindCut (P : Params) (k : Site) (base : Nat) (fc : Word) (q : Nat) (t : CutType) (s : State) : State :=
  bindSections P (0 :: k) base (q + 1) t (warpedCutoff P (1 :: k) fc s.fs) (bindActive base (q + 1) s)

/-! ## The peak filter (R200) -/

/-- The five coefficients of the peak section, from its linear gain, the sine and cosine of its
centre frequency, and its Q. -/
def peakSection (k : Site) (glin sinW cosW q : Word) : Coefs :=
  let a := fsqrt (0 :: k) glin
  let al := fdiv (1 :: k) (fmul (2 :: k) Config.half sinW) q
  let c2 := fmul (3 :: k) Config.negTwo cosW
  let aA := fmul (4 :: k) al a
  let aoA := fdiv (5 :: k) al a
  let b0 := fadd (6 :: k) Config.one aA
  let b2 := fsub (7 :: k) Config.one aA
  let a0 := fadd (8 :: k) Config.one aoA
  let a2 := fsub (9 :: k) Config.one aoA
  { b0 := fdiv (10 :: k) b0 a0
    b1 := fdiv (11 :: k) c2 a0
    b2 := fdiv (12 :: k) b2 a0
    a1 := fdiv (11 :: k) c2 a0
    a2 := fdiv (13 :: k) a2 a0 }

/-- The centre frequency in radians a sample: `fdiv(fmul(TWOPI32, fc), FS)` (R200). -/
def peakOmega (k : Site) (fc fs : Word) : Word :=
  fdiv (0 :: k) (fmul (1 :: k) Config.twoPi32 fc) fs

/-- `BindPeak(fc, gdb, q)` (R200). -/
def bindPeak (P : Params) (k : Site) (fc gdb q : Word) (s : State) : State :=
  let w := peakOmega (0 :: k) fc s.fs
  s.setCoef 4 (peakSection (1 :: k) (P.db2lin gdb) (P.sin w) (P.cos w) q)

/-! ## The bound scalars (R204) -/

/-- `BindScalars(snap)` (R204). -/
def bindScalars (P : Params) (snap : Snapshot) (s : State) : State :=
  { s with
    preg := P.db2lin snap.pre
    postg := P.db2lin snap.pst
    biasr := snap.bia
    amtr := snap.amt
    kindr := BitVec.ofNat 4 snap.knd
    mixt := snap.mix }

/-- `UpdateProc()` (R190). -/
def updateProc (P : Params) (k : Site) (s : State) : State :=
  let snap := snapshot P s
  let s := bindCut P (0 :: k) 0 snap.lcf snap.lcq .highpass s
  let s := bindCut P (1 :: k) 5 snap.hcf snap.hcq .lowpass s
  let s := bindPeak P (2 :: k) snap.pkf snap.pkg snap.pkq s
  bindScalars P snap s

/-- `UPDATE` in any instance (R209). -/
def runUpdate (P : Params) (s : State) : State :=
  runCommand .update [(s.prepared, .unprepared)] (updateProc P s.site s.draw) 0 s

/-- `UPDATE` (R209). -/
def execUpdate (s : State) : Host.Outcome State Fault Refusal := .next (runUpdate .reference s)

end Sys2Proof.Machine
end

