-- ==== Sys2Proof/Machine/Samples.lean ====
section
/-! DEFINITION. The sample-path commands PUT, PROCESS, GET (43_signal_chain.md R140 to R142). -/

namespace Sys2Proof.Machine

/-! ## In any instance -/

/-- `PUT c, i, x` (R140). -/
def runPut (c i : Nat) (x : Word) (s : State) : State :=
  runCommand (.put c i x) [(s.prepared, .unprepared), (sampleIndexOk c i s, .index)]
    (s.setBuf c i x) 0 s

/-- `PROCESS n` (R141): the updater, then the block. -/
def runProcess (P : Params) (n : Nat) (s : State) : State :=
  runCommand (.process n) [(s.prepared, .unprepared), (lengthOk n s, .index)]
    (processBlock P (1 :: s.site) n (updateProc P (0 :: s.site) s.draw)) 0 s

/-- `GET c, i` (R142). -/
def runGet (c i : Nat) (s : State) : State :=
  runCommand (.get c i) [(s.prepared, .unprepared), (sampleIndexOk c i s, .index)]
    s (s.getBuf c i) s

/-! ## The meanings, in the reference instance -/

/-- `PUT c, i, x` (R140). -/
def execPut (c i : Nat) (x : Word) (s : State) : Host.Outcome State Fault Refusal :=
  .next (runPut c i x s)

/-- `PROCESS n` (R141). -/
def execProcess (n : Nat) (s : State) : Host.Outcome State Fault Refusal :=
  .next (runProcess .reference n s)

/-- `GET c, i` (R142). -/
def execGet (c i : Nat) (s : State) : Host.Outcome State Fault Refusal := .next (runGet c i s)

end Sys2Proof.Machine
end

