-- ==== Sys2Proof/Machine/Session.lean ====
section
/-! DEFINITION. The session commands NOP, RESET and PREPARE (41_session_ops.md R120 to R122). -/

namespace Sys2Proof.Machine

/-! ## In any instance -/

/-- `NOP` (R120). -/
def runNop (s : State) : State := runCommand .nop [] s 0 s

/-- `RESET` (R121): executed also while `FAULT = 1` (60_exceptions.md R228). -/
def runReset (P : Params) (s : State) : State := (s.resetBlock P).respond (.ok 0)

/-- What `PREPARE` writes before it runs the updater: the session registers, and section state and
sample buffer cleared (R122). -/
def openSession (nch maxblk : Nat) (fs : Word) (s : State) : State :=
  { s with
    fs := fs
    nch := BitVec.ofNat 2 nch
    maxblk := BitVec.ofNat 16 maxblk
    prepared := true
    z := zCleared
    buf := [] }

/-- `MIXCUR <- MIXT`. -/
def settleMix (s : State) : State := { s with mixcur := s.mixt }

/-- `PREPARE nch, maxblk, fs` (R122). -/
def runPrepare (P : Params) (nch maxblk : Nat) (fs : Word) (s : State) : State :=
  runCommand (.prepare nch maxblk fs) [(prepareArgsOk P nch maxblk fs, .prepare)]
    (settleMix (updateProc P s.site (openSession nch maxblk fs s.draw))) 0 s

/-! ## The meanings, in the reference instance -/

/-- `NOP` (R120). -/
def execNop (s : State) : Host.Outcome State Fault Refusal := .next (runNop s)

/-- `RESET` (R121). -/
def execReset (s : State) : Host.Outcome State Fault Refusal := .next (runReset .reference s)

/-- `PREPARE nch, maxblk, fs` (R122). -/
def execPrepare (nch maxblk : Nat) (fs : Word) (s : State) : Host.Outcome State Fault Refusal :=
  .next (runPrepare .reference nch maxblk fs s)

end Sys2Proof.Machine
end

