-- ==== Sys2Proof/Machine/Dispatch.lean ====
section
/-! DEFINITION. One arm for each command, each a call of its meaning. -/

namespace Sys2Proof.Machine

/-- The effect of a decoded command. -/
def exec (i : Instr) (s : State) : Host.Outcome State Fault Refusal :=
  match i with
  | .nop => Sys2Proof.Machine.execNop s
  | .reset => Sys2Proof.Machine.execReset s
  | .prepare nch maxblk fs => Sys2Proof.Machine.execPrepare nch maxblk fs s
  | .update => Sys2Proof.Machine.execUpdate s
  | .setp p v => Sys2Proof.Machine.execSetp p v s
  | .getp p => Sys2Proof.Machine.execGetp p s
  | .tcdirty => Sys2Proof.Machine.execTcdirty s
  | .rdcoef sec k => Sys2Proof.Machine.execRdcoef sec k s
  | .rdsr r => Sys2Proof.Machine.execRdsr r s
  | .put c ix x => Sys2Proof.Machine.execPut c ix x s
  | .process n => Sys2Proof.Machine.execProcess n s
  | .get c ix => Sys2Proof.Machine.execGet c ix s

end Sys2Proof.Machine
end

