-- ==== Sys2Proof/Machine/Step.lean ====
section
/-! DEFINITION. One step: the oldest host input is taken and carried out (00_scope.md R6). The block
has no program counter and no fetch (10_state.md R28). -/

namespace Sys2Proof.Machine

/-- The state with the host inputs not yet taken. -/
def State.withInp (s : State) (inp : List HostInput) : State := { s with inp := inp }

/-- A command word: decoded and executed, or illegal (30_encoding.md R77). -/
def runWord (w : CmdWord) (s : State) : Host.Outcome State Fault Refusal :=
  match decode w with
  | .ok i => exec i s
  | .error _ => .next (illegalWord w s)

/-- One step. With nothing presented the block holds its state and does nothing
(60_exceptions.md R239); the reset input resets it (70_reset_and_hazards.md R250). -/
def step (s : State) : Host.Outcome State Fault Refusal :=
  match s.inp with
  | [] => .next s
  | .hardReset :: rest => .next ((s.withInp rest).resetBlock .reference)
  | .command w :: rest => runWord w (s.withInp rest)

/-- The state with the table's number `w` of `nbits` bits presented as the next command word. It
stands for the host presenting it (log 1). -/
def State.withFetchWord (s : State) (nbits w : Nat) : State :=
  s.withInp (.command (BitVec.ofNat 64 (w % 2 ^ nbits)) :: s.inp)

end Sys2Proof.Machine
end

