-- ==== Sys2Proof/Assembler.lean ====
section
/-! DEFINITION. The operand names and the pseudo-instructions of the assembler form (30_encoding.md
R78, R79). They have no semantics of their own: each stands for a number or expands to commands. -/

namespace Sys2Proof.Assembler

/-- Parameter names (10_state.md R21). -/
inductive Param
  | lcFreq | lcSlope | pkFreq | pkGain | pkQ | hcFreq | hcSlope | preGain | bias | wsAmount
  | wsKind | postGain | mix
  deriving DecidableEq, Repr

/-- The number of a parameter (R21). -/
def Param.number : Param → Nat
  | .lcFreq => 0
  | .lcSlope => 1
  | .pkFreq => 2
  | .pkGain => 3
  | .pkQ => 4
  | .hcFreq => 5
  | .hcSlope => 6
  | .preGain => 7
  | .bias => 8
  | .wsAmount => 9
  | .wsKind => 10
  | .postGain => 11
  | .mix => 12

/-- System register names (10_state.md R30). -/
inductive SysReg
  | status | finfoLo | finfoHi | fs | geom | active | preg | biasr | amtr | postg | mixt | mixcur
  | impl
  deriving DecidableEq, Repr

/-- The number of a system register (R30). -/
def SysReg.number : SysReg → Nat
  | .status => 0
  | .finfoLo => 1
  | .finfoHi => 2
  | .fs => 3
  | .geom => 4
  | .active => 5
  | .preg => 6
  | .biasr => 7
  | .amtr => 8
  | .postg => 9
  | .mixt => 10
  | .mixcur => 11
  | .impl => 12

/-- Coefficient names (R78). -/
inductive CoefName
  | b0 | b1 | b2 | a1 | a2
  deriving DecidableEq, Repr

/-- The index of a coefficient (R78). -/
def CoefName.number : CoefName → Nat
  | .b0 => 0
  | .b1 => 1
  | .b2 => 2
  | .a1 => 3
  | .a2 => 4

/-- The two cut cascades. -/
inductive Cut
  | lc | hc
  deriving DecidableEq, Repr

/-- The section at a position of a cascade, `LC0`..`LC3` and `HC0`..`HC3` (R78). -/
def Cut.section (c : Cut) (j : Nat) : Nat :=
  match c with
  | .lc => j
  | .hc => 5 + j

/-- The section `PK` (R78). -/
def peakSectionNumber : Nat := 4

/-- The slope parameter of a cascade. -/
def Cut.slopeParam : Cut → Param
  | .lc => .lcSlope
  | .hc => .hcSlope

/-- The slope orders in dB an octave (10_state.md R23). -/
inductive SlopeOrder
  | db12 | db24 | db36 | db48
  deriving DecidableEq, Repr

/-- The steepness in dB an octave. -/
def SlopeOrder.decibels : SlopeOrder → Nat
  | .db12 => 12
  | .db24 => 24
  | .db36 => 36
  | .db48 => 48

/-- `SETSLOPE cut, d` (R79): `SETP` with `d/12 - 1`. -/
def setSlope (c : Cut) (d : SlopeOrder) : List Instr :=
  [.setp c.slopeParam.number (BitVec.ofNat 32 (d.decibels / 12 - 1))]

/-- `SETKIND name` (R79). -/
def setKind (k : Machine.Kind) : List Instr :=
  [.setp Param.wsKind.number (BitVec.ofNat 32 k.number)]

/-- `RUN1 c, x` (R79). -/
def run1 (c : Nat) (x : Word) : List Instr := [.put c 0 x, .process 1, .get c 0]

end Sys2Proof.Assembler
end

