-- ==== Sys2Proof/Machine/AnyInstance.lean ====
section
/-! DEFINITION. The machine of any instance: the same commands with the implementation parameters as an
argument (00_scope.md R7). `exec` and `step` are this machine at the reference instance
(`exec_eq_run`, `Obligations.EveryWordAnsweredOnce`). -/

namespace Sys2Proof.Machine

/-- The effect of a decoded command in an instance. -/
def run (P : Params) (i : Instr) (s : State) : State :=
  match i with
  | .nop => runNop s
  | .reset => runReset P s
  | .prepare nch maxblk fs => runPrepare P nch maxblk fs s
  | .update => runUpdate P s
  | .setp p v => runSetp P p v s
  | .getp p => runGetp P p s
  | .tcdirty => runTcdirty s
  | .rdcoef sec k => runRdcoef P sec k s
  | .rdsr r => runRdsr P r s
  | .put c ix x => runPut c ix x s
  | .process n => runProcess P n s
  | .get c ix => runGet c ix s

/-- One step of an instance. -/
def stepIn (P : Params) (s : State) : State :=
  match s.inp with
  | [] => s
  | .hardReset :: rest => (s.withInp rest).resetBlock P
  | .command w :: rest =>
    match decode w with
    | .ok i => run P i (s.withInp rest)
    | .error _ => illegalWord w (s.withInp rest)

end Sys2Proof.Machine
end

