-- ==== Sys2Proof/Safety.lean ====
section
/-! DEFINITION. What holds of every state a run reaches (10_state.md R26, R29, R32, 60_exceptions.md
R221), what an instance must keep (00_scope.md R7, 93_implementation_defined.md U2 to U5), and the terms
the statements are written in. -/

namespace Sys2Proof.Machine

/-! ## The invariant -/

/-- The session registers (10_state.md R26). -/
abbrev State.SessionOk (s : State) : Prop :=
  (s.prepared = true → within Config.fsMin Config.fsMax s.fs = true ∧ (s.nch = 1 ∨ s.nch = 2) ∧
      1 ≤ s.maxblk.toNat ∧ s.maxblk.toNat ≤ Config.bufcap) ∧
    (s.prepared = false → s.fs = Config.zero ∧ s.nch = 0 ∧ s.maxblk = 0)

/-- The fault record: `CAUSE` reads 0 exactly when `FAULT = 0`, codes 5 to 15 are never written
(60_exceptions.md R221), and `FINFO` is clear without a fault (10_state.md R27). -/
abbrev State.FaultRecordOk (s : State) : Prop :=
  s.cause.toNat ≤ 4 ∧ (s.cause = 0 ↔ s.fault = false) ∧ (s.fault = false → s.finfo = 0)

/-- The first n of the four sections of a cascade are active and no other. -/
abbrev State.ActivePrefix (s : State) (base n : Nat) : Prop :=
  ∀ j ∈ List.range 4, s.getAct (base + j) = decide (j < n)

/-- The activity bits (10_state.md R32). -/
abbrev State.ActiveOk (s : State) : Prop :=
  s.getAct 4 = true ∧ (∃ n ∈ [1, 2, 3, 4], s.ActivePrefix 0 n) ∧ ∃ n ∈ [1, 2, 3, 4], s.ActivePrefix 5 n

/-- The bound scalars (10_state.md R29); the gains lie in the range that the contract of `f_db2lin`
gives them (45_coefficient_update.md R204). -/
abbrev State.ScalarsOk (s : State) : Prop :=
  s.kindr.toNat ≤ 8 ∧ within Config.amtMin Config.amtMax s.amtr = true ∧
    within Config.biasMin Config.biasMax s.biasr = true ∧
    within Config.mixMin Config.mixMax s.mixt = true ∧
    within Config.mixMin Config.mixMax s.mixcur = true ∧
    within linearLow linearHigh s.preg = true ∧ within linearLow linearHigh s.postg = true

/-- Every listed word is one the block is built with (20_memory.md R50). -/
abbrev Mem.Built (P : Params) (m : Mem) : Prop :=
  ∀ e ∈ m, isSampleKey P e.1 = true

/-- The two sample stores are in canonical form and list only built words. -/
abbrev State.StoresOk (s : State) : Prop :=
  s.buf.wf ∧ s.dry.wf ∧ s.buf.Built .reference ∧ s.dry.Built .reference

/-- What holds of every state a run from reset reaches. -/
structure State.Inv (s : State) : Prop where
  session : s.SessionOk
  faultRecord : s.FaultRecordOk
  active : s.ActiveOk
  scalars : s.ScalarsOk
  stores : s.StoresOk

/-- All five coefficients are finite (45_coefficient_update.md R205). -/
abbrev Coefs.Finite (c : Coefs) : Prop :=
  isFinite c.b0 = true ∧ isFinite c.b1 = true ∧ isFinite c.b2 = true ∧ isFinite c.a1 = true ∧
    isFinite c.a2 = true

/-- Every stored coefficient is finite. -/
def State.CoefFinite (s : State) : Prop := ∀ n < 9, (s.getCoef n).Finite

/-! ## Terms of the statements -/

/-- The block may execute a command: no fault was taken. -/
abbrev State.Ready (s : State) : Prop := s.fault = false

/-- The block may execute a command that needs a session. -/
abbrev State.ReadyInSession (s : State) : Prop := s.fault = false ∧ s.prepared = true

/-- What `UpdateProc` writes is the same in both states (45_coefficient_update.md R190). -/
abbrev State.SameBinding (s t : State) : Prop :=
  t.coef = s.coef ∧ t.act = s.act ∧ t.preg = s.preg ∧ t.biasr = s.biasr ∧ t.amtr = s.amtr ∧
    t.kindr = s.kindr ∧ t.postg = s.postg ∧ t.mixt = s.mixt

/-- The state with what `UpdateProc` writes taken from another: everything else is unchanged. -/
def State.withBinding (s t : State) : State :=
  { s with coef := t.coef, act := t.act, preg := t.preg, biasr := t.biasr, amtr := t.amtr,
           kindr := t.kindr, postg := t.postg, mixt := t.mixt }

/-- The binding of a state is that of its own parameters and sample rate: the snapshot's scalars, an
active prefix of each cascade with the coefficients of its design, and the peak section
(45_coefficient_update.md R191, R193, R200, R204). The places `k` matter only for a NaN. -/
structure State.BoundFrom (P : Params) (t s : State) : Prop where
  preg : t.preg = P.db2lin (snapshot P s).pre
  postg : t.postg = P.db2lin (snapshot P s).pst
  biasr : t.biasr = (snapshot P s).bia
  amtr : t.amtr = (snapshot P s).amt
  kindr : t.kindr.toNat = (snapshot P s).knd
  mixt : t.mixt = (snapshot P s).mix
  lowActive : t.ActivePrefix 0 ((snapshot P s).lcq + 1)
  highActive : t.ActivePrefix 5 ((snapshot P s).hcq + 1)
  peakActive : t.getAct 4 = s.getAct 4
  low : ∀ j ≤ (snapshot P s).lcq, ∃ k k', t.getCoef j =
    highpassSection k (warpedCutoff P k' (snapshot P s).lcf s.fs) (P.invq ((snapshot P s).lcq + 1) j)
  high : ∀ j ≤ (snapshot P s).hcq, ∃ k k', t.getCoef (5 + j) =
    lowpassSection k (warpedCutoff P k' (snapshot P s).hcf s.fs) (P.invq ((snapshot P s).hcq + 1) j)
  peak : ∃ k k', t.getCoef 4 =
    peakSection k (P.db2lin (snapshot P s).pkg) (P.sin (peakOmega k' (snapshot P s).pkf s.fs))
      (P.cos (peakOmega k' (snapshot P s).pkf s.fs)) (snapshot P s).pkq
  lowKept : ∀ j < 4, (snapshot P s).lcq < j → t.getCoef j = s.getCoef j
  highKept : ∀ j < 4, (snapshot P s).hcq < j → t.getCoef (5 + j) = s.getCoef (5 + j)

/-- The output samples of one channel as a function of its input samples and delay values alone, with
the delay values it ends with: sample i is `Mix(x, ChainSample(c, x), m_i)` (43_signal_chain.md R141,
R148, R152, R153). The samples given are those from index `i` on. -/
def channelStream (P : Params) (k : Site) (c n : Nat) (m0 : Word) (s : State) :
    Nat → Vector Delay 9 → List Word → List Word × Vector Delay 9
  | _, zs, [] => ([], zs)
  | i, zs, x :: xs =>
    let wet := chainSample P (0 :: i :: c :: k) s zs x
    let rest := channelStream P k c n m0 s (i + 1) wet.2 xs
    (mix (2 :: i :: c :: k) x wet.1 (rampValue (1 :: i :: c :: k) m0 s.mixt n i) :: rest.1, rest.2)

/-- `BUF[c][0..n-1]`. -/
def State.block (s : State) (c n : Nat) : List Word := (List.range n).map (s.getBuf c)

/-- `x` is what `clampF` makes of `v`: in the range always, `v` itself where that is in range, the nearer
bound outside it, the default `d` at a NaN (40_numerics.md R109, 45_coefficient_update.md R191). -/
abbrev ClampedFrom (x v lo hi d : Word) : Prop :=
  within lo hi x = true ∧ (within lo hi v = true → x = v) ∧ (flt v lo = true → x = lo) ∧
    (fgt v hi = true → x = hi) ∧ (isNaN v = true → x = d)

/-- `r` is the real number `exact`, in units of 2^-149, correctly rounded to S: no finite value is nearer,
a tie goes to the even pattern, and it is an infinity, of the sign of `exact`, exactly from half a unit
above the largest finite value (40_numerics.md R91, R92). -/
def CorrectlyRounded (r : Word) (exact : ℝ) : Prop :=
  isNaN r = false ∧ (isFinite r = true ↔ |exact| < (2 ^ 25 - 1) * 2 ^ 252) ∧
    (if signBit r then exact ≤ 0 else 0 ≤ exact) ∧
    (isFinite r = true → ∀ c : Word, isFinite c = true →
      |(value r : ℝ) - exact| ≤ |(value c : ℝ) - exact| ∧
      (|(value r : ℝ) - exact| = |(value c : ℝ) - exact| → value c ≠ value r → r.getLsbD 0 = false))

/-! ## What an instance must keep (00_scope.md R7)

`core` runs the reference instance. For any other, `stepIn P` is the model, with these properties of `P`
as hypotheses (40_numerics.md R103). -/

/-- The word is within `tol` units of 2^-149 of the real number. -/
def RealNear (v : Word) (exact tol : ℝ) : Prop := |(value v : ℝ) - 2 ^ 149 * exact| ≤ tol

/-- The real number a word stands for. -/
abbrev Stands (a : Word) (r : ℝ) : Prop := r * 2 ^ 149 = (value a : ℝ)

/-- The contract of `f_tan` (40_numerics.md R104). -/
def TanContract (f : Word → Word) : Prop :=
  ∀ x (r : ℝ), Stands x r → within tanDomainMin tanDomainMax x = true →
    isFinite (f x) = true ∧ flt Config.zero (f x) = true ∧ RealNear (f x) (Real.tan r) (ulp (f x))

/-- The contract of `f_sin` (40_numerics.md R105). -/
structure SinContract (f : Word → Word) : Prop where
  atZeros : f 0 = 0 ∧ f 0x80000000#32 = 0x80000000#32
  odd : ∀ x, isFinite x = true → f (fneg x) = fneg (f x)
  range : ∀ x, isFinite x = true → within Config.negOne Config.one (f x) = true
  fine : ∀ x (r : ℝ), Stands x r → fle (fabs x) trigFine = true →
    RealNear (f x) (Real.sin r) (ulp (f x))
  coarse : ∀ x (r : ℝ), Stands x r → fgt (fabs x) trigFine = true → fle (fabs x) trigCoarse = true →
    RealNear (f x) (Real.sin r) (2 ^ (149 - 22))
  atOthers : ∀ x, isFinite x = false → isNaN (f x) = true

/-- The contract of `f_cos` (40_numerics.md R106). -/
structure CosContract (f : Word → Word) : Prop where
  atZeros : f 0 = Config.one ∧ f 0x80000000#32 = Config.one
  even : ∀ x, isFinite x = true → f (fneg x) = f x
  range : ∀ x, isFinite x = true → within Config.negOne Config.one (f x) = true
  fine : ∀ x (r : ℝ), Stands x r → fle (fabs x) trigFine = true →
    RealNear (f x) (Real.cos r) (max (ulp (f x)) (2 ^ (149 - 24)))
  coarse : ∀ x (r : ℝ), Stands x r → fgt (fabs x) trigFine = true → fle (fabs x) trigCoarse = true →
    RealNear (f x) (Real.cos r) (2 ^ (149 - 22))
  atOthers : ∀ x, isFinite x = false → isNaN (f x) = true

/-- The contract of `f_db2lin` (40_numerics.md R107): 10^(d/20) is e^(d ln 10 / 20). -/
structure Db2linContract (f : Word → Word) : Prop where
  atZeros : f 0 = Config.one ∧ f 0x80000000#32 = Config.one
  close : ∀ d (r : ℝ), Stands d r → within dbDomainMin dbDomainMax d = true →
    isFinite (f d) = true ∧ flt Config.zero (f d) = true ∧
      RealNear (f d) (Real.exp (r * Real.log 10 / 20)) (ulp (f d))

/-- A range with its default: lo <= def <= hi, finite (40_numerics.md R109). -/
abbrev RangeHolds (g : Range) (d : Word) : Prop :=
  isFinite g.lo = true ∧ isFinite g.hi = true ∧ within g.lo g.hi d = true

/-- What an instance must keep: the counts that the tables of 10_state.md R20, R21, R24 and R31 spell out
one by one, the bound of U5 on `BUFCAP`, ordered ranges around the defaults, the contracts of the four
functions, and the contract of every kind (44_waveshaper.md R171). -/
structure Conforms (P : Params) : Prop where
  counts : P.npar = 13 ∧ P.nkind = 9 ∧ P.nsec = 9 ∧ P.nchMax = 2
  bufcap : 1 ≤ P.bufcap ∧ P.bufcap ≤ 65535
  fs : isFinite P.fs.lo = true ∧ isFinite P.fs.hi = true ∧ fle P.fs.lo P.fs.hi = true
  freq : RangeHolds P.freq (P.default 0) ∧ RangeHolds P.freq (P.default 2) ∧ RangeHolds P.freq (P.default 5)
  pkgain : RangeHolds P.pkgain (P.default 3)
  q : RangeHolds P.q (P.default 4)
  gain : RangeHolds P.gain (P.default 7) ∧ RangeHolds P.gain (P.default 11)
  bias : RangeHolds P.bias (P.default 8)
  amt : RangeHolds P.amt (P.default 9)
  mix : RangeHolds P.mix (P.default 12)
  tan : TanContract P.tan
  sin : SinContract P.sin
  cos : CosContract P.cos
  db2lin : Db2linContract P.db2lin
  shape : ∀ n < P.nkind, ∀ x a, within P.amt.lo P.amt.hi a = true →
    within Config.negOne Config.one (P.shape n x a) = true

end Sys2Proof.Machine
end

