-- ==== Sys2Proof/Certificates/Slice0/Obligations.lean ====
section
/-! DEFINITION. The statements for the provers. Each docstring names the rules of spec/ it rests on.
A place `k` of an operation matters only for a NaN (log 6): a statement that mentions one holds for
every place, so it rests on no choice of a free value. -/

open Sys2Proof Sys2Proof.Machine

/-! ## Encoding and decoding -/

/-- The worked encodings of 30_encoding.md R80. -/
def Obligations.WorkedEncodingsDecode : Prop :=
  decode 0x02020200473B8000#64 = .ok (.prepare 2 512 0x473B8000#32) ∧
  decode 0x10000000447A0000#64 = .ok (.setp 0 0x447A0000#32) ∧
  decode 0x100A000000000003#64 = .ok (.setp 10 3#32) ∧
  decode 0x20010005BF000000#64 = .ok (.put 1 5 0xBF000000#32) ∧
  decode 0x2100004000000000#64 = .ok (.process 64) ∧
  decode 0x2200003F00000000#64 = .ok (.get 0 63) ∧
  decode 0x1304000400000000#64 = .ok (.rdcoef 4 4) ∧
  decode 0x1405000000000000#64 = .ok (.rdsr 5) ∧
  decode 0x2101004000000000#64 = .error .reservedField

/-- Decoding the word of a well-formed command gives the command back (30_encoding.md R70 to R73). -/
def Obligations.DecodeOfEncode : Prop := ∀ i : Instr, i.wf = true → decode (encode i) = .ok i

/-- A word that decodes to a command is that command's word: no bit of a legal word is dropped, and the
command is well-formed (30_encoding.md R70, R75). -/
def Obligations.EncodeOfDecode : Prop :=
  ∀ (w : CmdWord) (i : Instr), decode w = .ok i → i.wf = true ∧ encode i = w

/-- The rows' match and mask; a word decodes to a command of an opcode exactly when it matches that
opcode's row, it matches at most one row, and a word that matches none is rejected (30_encoding.md R74). -/
def Obligations.DecodeAgreesWithTable : Prop :=
  Opcode.all.map Opcode.row =
    [⟨0x0000000000000000#64, 0xFFFFFFFFFFFFFFFF#64⟩, ⟨0x0100000000000000#64, 0xFFFFFFFFFFFFFFFF#64⟩,
      ⟨0x0200000000000000#64, 0xFF00000000000000#64⟩, ⟨0x0300000000000000#64, 0xFFFFFFFFFFFFFFFF#64⟩,
      ⟨0x1000000000000000#64, 0xFF00FFFF00000000#64⟩, ⟨0x1100000000000000#64, 0xFF00FFFFFFFFFFFF#64⟩,
      ⟨0x1200000000000000#64, 0xFFFFFFFFFFFFFFFF#64⟩, ⟨0x1300000000000000#64, 0xFF000000FFFFFFFF#64⟩,
      ⟨0x1400000000000000#64, 0xFF00FFFFFFFFFFFF#64⟩, ⟨0x2000000000000000#64, 0xFF00000000000000#64⟩,
      ⟨0x2100000000000000#64, 0xFFFF0000FFFFFFFF#64⟩, ⟨0x2200000000000000#64, 0xFF000000FFFFFFFF#64⟩] ∧
  (∀ (w : CmdWord) (o : Opcode),
    (∃ i, decode w = .ok i ∧ i.opcode = o) ↔ o.row.selects w = true) ∧
  (∀ (w : CmdWord) (o o' : Opcode),
    o.row.selects w = true → o'.row.selects w = true → o = o') ∧
  ∀ w : CmdWord, (∀ o : Opcode, o.row.selects w = false) ↔ ∃ r, decode w = .error r

/-- A list of bytes carries a command word exactly when it has eight bytes and byte i is bits 8i+7 to 8i
of the word: the least significant byte first. Every word is carried by some list (20_memory.md R52). -/
def Obligations.TransportBytesCarryWord : Prop :=
  (∀ (bs : List (BitVec 8)) (w : CmdWord), commandOfBytes bs = some w ↔
    bs.length = 8 ∧ ∀ i < 8, bs[i]? = some (w.extractLsb' (8 * i) 8)) ∧
  ∀ w : CmdWord, commandOfBytes (bytesOfCommand w) = some w

/-! ## One step -/

/-- A step on a presented word that decodes is the execution of the command it decodes to, on the state
with the word taken off the port (00_scope.md R6, 30_encoding.md R77). -/
def Obligations.StepRunsDecodedCommand : Prop :=
  ∀ (s : State) (w : CmdWord) (rest : List HostInput) (i : Instr),
    s.inp = .command w :: rest → decode w = .ok i → i.wf = true ∧ step s = exec i (s.withInp rest)

/-- A step on an illegal word: `E_ILLEGAL` with the word recorded; refused while `FAULT = 1`
(60_exceptions.md R222, R226, R228). -/
def Obligations.StepOnIllegalWord : Prop :=
  ∀ (s : State) (w : CmdWord) (rest : List HostInput) (r : Reject),
    s.inp = .command w :: rest → decode w = .error r →
      (s.fault = false → step s = .next { s with
        inp := rest, fault := true, cause := 1, finfo := w, resps := s.resps ++ [⟨true, 0⟩] }) ∧
      (s.fault = true → step s = .next { s with inp := rest, resps := s.resps ++ [⟨true, 0⟩] })

/-- Every presented word, in every state, is answered by exactly one response and a next state, and only
that word is taken off the port; an error answer carries 0 (00_scope.md R14, 30_encoding.md R71). The
same of every instance, whatever its implementation parameters (R7), and `step` is that of the
reference instance. -/
def Obligations.EveryWordAnsweredOnce : Prop :=
  ∀ (s : State) (w : CmdWord) (rest : List HostInput), s.inp = .command w :: rest →
    (∃ t r, step s = .next t ∧ t.inp = rest ∧ t.resps = s.resps ++ [r] ∧
      (r.err = true → r.data = 0)) ∧
    step s = .next (stepIn .reference s) ∧
    ∀ P : Params, ∃ r, (stepIn P s).inp = rest ∧ (stepIn P s).resps = s.resps ++ [r] ∧
      (r.err = true → r.data = 0)

/-! ## Reset -/

/-- The reset state, the state after a `RESET` command and the state after the reset input have the
values of 10_state.md R36. (`BUF` and `DRY`, which R36 leaves unspecified, are not part of the
statement.) -/
def Obligations.ResetStateValues : Prop :=
  ∀ s0 s : State, (s = State.reset ∨ exec .reset s0 = .next s ∨
    ((∃ rest, s0.inp = .hardReset :: rest) ∧ step s0 = .next s)) →
  s.par.toList = [0x41A00000#32, 0, 0x447A0000#32, 0, 0x3F800000#32, 0x469C4000#32, 0, 0, 0, 0, 0, 0,
    0x3F800000#32] ∧
  s.prepared = false ∧ s.fs = 0 ∧ s.nch = 0 ∧ s.maxblk = 0 ∧ s.dirty = true ∧ s.fault = false ∧
  s.cause = 0 ∧ s.finfo = 0 ∧
  (∀ n < 9, s.getCoef n = ⟨0x3F800000#32, 0, 0, 0, 0⟩) ∧
  (∀ n < 9, s.getAct n = decide (n = 0 ∨ n = 4 ∨ n = 5)) ∧
  s.preg = 0x3F800000#32 ∧ s.biasr = 0 ∧ s.amtr = 0 ∧ s.kindr = 0 ∧ s.postg = 0x3F800000#32 ∧
  s.mixt = 0x3F800000#32 ∧ s.mixcur = 0x3F800000#32 ∧
  ∀ c < 2, ∀ n < 9, (s.getZ c)[n]? = some ⟨0, 0⟩

/-- The `RESET` command completes in every state, faulted or not, and leaves every piece of state at its
reset value; `BUF` and `DRY` are unspecified (41_session_ops.md R121, 10_state.md R36,
60_exceptions.md R228). That what was presented and answered on the ports stays over the reset is the
model's choice: log 1 for `inp`, log 2 for `resps`. -/
def Obligations.ResetCompletes : Prop :=
  ∀ s : State, ∃ t, exec .reset s = .next t ∧
    t = { State.reset with
      buf := t.buf, dry := t.dry, freeIx := t.freeIx
      inp := s.inp, resps := s.resps ++ [⟨false, 0⟩] }

/-- The reset input has the effect of the `RESET` command, without a response; with nothing presented the
block holds its state (70_reset_and_hazards.md R250, 60_exceptions.md R239; that the input gives no
response is log 3, that the step then is an idle one is log 4). -/
def Obligations.ResetInputAndIdleStep : Prop :=
  (∀ (s : State) (rest : List HostInput), s.inp = .hardReset :: rest →
    ∃ t, step s = .next t ∧
      t = { State.reset with
        buf := t.buf, dry := t.dry, freeIx := t.freeIx, inp := rest, resps := s.resps }) ∧
  ∀ s : State, s.inp = [] → step s = .next s

/-! ## Faults -/

/-- Fault entry writes `FAULT`, `CAUSE` and `FINFO`, answers `ERR`, and does nothing else
(60_exceptions.md R226, with the codes of R221). -/
def Obligations.FaultEntryExact : Prop :=
  ∀ (s : State) (c : Cause) (w : CmdWord), s.raise c w = { s with
    fault := true
    cause := (match c with | .illegal => 1 | .unprepared => 2 | .prepare => 3 | .index => 4)
    finfo := w
    resps := s.resps ++ [⟨true, 0⟩] }

/-- Faults are precise: when a command executed with `FAULT = 0` leaves `FAULT = 1`, it has changed the
fault record and nothing else, and the record holds its word, `encode i` (60_exceptions.md R226, R227, log 15). -/
def Obligations.FaultsArePrecise : Prop :=
  ∀ (i : Instr) (s t : State), s.fault = false → exec i s = .next t → t.fault = true →
    t = { s with fault := true, cause := t.cause, finfo := encode i, resps := s.resps ++ [⟨true, 0⟩] } ∧
      1 ≤ t.cause.toNat ∧ t.cause.toNat ≤ 4

/-- Without a session `UPDATE`, `PUT`, `PROCESS` and `GET` raise `E_UNPREPARED`, whatever their indices;
with a session they do not raise it, and no other command ever does (60_exceptions.md R223). -/
def Obligations.UnpreparedFault : Prop :=
  ∀ s : State, s.fault = false →
    (s.prepared = false →
      exec .update s = .next (s.raise .unprepared (encode .update)) ∧
      (∀ c i x, exec (.put c i x) s = .next (s.raise .unprepared (encode (.put c i x)))) ∧
      (∀ n, exec (.process n) s = .next (s.raise .unprepared (encode (.process n)))) ∧
      ∀ c i, exec (.get c i) s = .next (s.raise .unprepared (encode (.get c i)))) ∧
    ∀ i t, exec i s = .next t → t.fault = true → t.cause = 2 → s.prepared = false ∧
      (i = .update ∨ (∃ c n x, i = .put c n x) ∨ (∃ n, i = .process n) ∨ ∃ c n, i = .get c n)

/-- An index out of its range raises `E_INDEX`: the table of 60_exceptions.md R224; the commands that need
a session raise `E_UNPREPARED` first when there is none. -/
def Obligations.IndexFault : Prop :=
  ∀ s : State, s.fault = false →
    (∀ p v, p > 12 → exec (.setp p v) s = .next (s.raise .index (encode (.setp p v)))) ∧
    (∀ p, p > 12 → exec (.getp p) s = .next (s.raise .index (encode (.getp p)))) ∧
    (∀ r, r > 12 → exec (.rdsr r) s = .next (s.raise .index (encode (.rdsr r)))) ∧
    (∀ n k, n > 8 ∨ k > 4 → exec (.rdcoef n k) s = .next (s.raise .index (encode (.rdcoef n k)))) ∧
    (s.prepared = true →
      (∀ c i x, c ≥ s.nch.toNat ∨ i ≥ s.maxblk.toNat →
        exec (.put c i x) s = .next (s.raise .index (encode (.put c i x)))) ∧
      (∀ c i, c ≥ s.nch.toNat ∨ i ≥ s.maxblk.toNat →
        exec (.get c i) s = .next (s.raise .index (encode (.get c i)))) ∧
      ∀ n, n > s.maxblk.toNat → exec (.process n) s = .next (s.raise .index (encode (.process n)))) ∧
    (s.prepared = false → ∀ c i x n,
      exec (.put c i x) s = .next (s.raise .unprepared (encode (.put c i x))) ∧
      exec (.get c i) s = .next (s.raise .unprepared (encode (.get c i))) ∧
      exec (.process n) s = .next (s.raise .unprepared (encode (.process n))))

/-- An illegal argument of `PREPARE` raises `E_PREPARE` (41_session_ops.md R122, 60_exceptions.md R225). -/
def Obligations.PrepareFault : Prop :=
  ∀ (s : State) (nch maxblk : Nat) (fs : Word), s.fault = false →
    ((nch ≠ 1 ∧ nch ≠ 2) ∨ maxblk = 0 ∨ maxblk > 4096 ∨ isNaN fs = true ∨
      flt fs 0x472C4400#32 = true ∨ fgt fs 0x483B8000#32 = true) →
    exec (.prepare nch maxblk fs) s = .next (s.raise .prepare (encode (.prepare nch maxblk fs)))

/-- While `FAULT = 1` a step executes the word of `RESET` and the thirteen legal words of `RDSR`, and
refuses every other word, legal, illegal or faulting in itself: `ERR`, and no state changes, the fault
record included (60_exceptions.md R228). -/
def Obligations.RefusalWhileFaulted : Prop :=
  ∀ (s : State) (w : CmdWord) (rest : List HostInput),
    s.fault = true → s.inp = .command w :: rest →
    (w = 0x0100000000000000#64 → ∃ t, exec .reset (s.withInp rest) = .next t ∧ step s = .next t ∧
      t.fault = false ∧ t.resps = s.resps ++ [⟨false, 0⟩]) ∧
    (∀ r ≤ 12, w = BitVec.ofNat 64 (0x14 * 2 ^ 56 + r * 2 ^ 48) → step s = .next { s with
      inp := rest, resps := s.resps ++ [⟨false, sysReg .reference r s⟩] }) ∧
    (w ≠ 0x0100000000000000#64 → (∀ r ≤ 12, w ≠ BitVec.ofNat 64 (0x14 * 2 ^ 56 + r * 2 ^ 48)) →
      step s = .next { s with inp := rest, resps := s.resps ++ [⟨true, 0⟩] })

/-! ## Session, parameter and status commands -/

/-- `NOP` changes nothing (41_session_ops.md R120). -/
def Obligations.NopCompletes : Prop :=
  ∀ s : State, s.Ready → exec .nop s = .next { s with resps := s.resps ++ [⟨false, 0⟩] }

/-- `PREPARE` with legal arguments opens the session: the session registers, all of `Z` and `BUF` cleared,
the binding of the current parameters at the new sample rate, the mix settled; nothing else changes
(41_session_ops.md R122, 45_coefficient_update.md R190). -/
def Obligations.PrepareCompletes : Prop :=
  ∀ (s : State) (nch maxblk : Nat) (fs : Word), s.Ready → (nch = 1 ∨ nch = 2) → 1 ≤ maxblk →
    maxblk ≤ 4096 → within 0x472C4400#32 0x483B8000#32 fs = true →
    ∃ t, exec (.prepare nch maxblk fs) s = .next t ∧
      t = { s.withBinding t with
        prepared := true, fs := fs, nch := t.nch, maxblk := t.maxblk, z := t.z, buf := t.buf
        mixcur := t.mixt, resps := s.resps ++ [⟨false, 0⟩], freeIx := t.freeIx } ∧
      t.nch.toNat = nch ∧ t.maxblk.toNat = maxblk ∧
      (∀ c < 2, ∀ n < 9, (t.getZ c)[n]? = some ⟨0, 0⟩) ∧ (∀ key, t.buf.read key = 0) ∧
      t.BoundFrom .reference { s with fs := fs }

/-- `SETP` stores the bits it carries, whatever they are, and sets `DIRTY`; nothing else changes
(42_parameter_ops.md R130). -/
def Obligations.SetpCompletes : Prop :=
  ∀ (s : State) (p : Nat) (v : Word), s.Ready → p ≤ 12 →
    ∃ t, exec (.setp p v) s = .next t ∧
      t = { s with par := t.par, dirty := true, resps := s.resps ++ [⟨false, 0⟩] } ∧
      t.getPar p = v ∧ ∀ q, q ≠ p → t.getPar q = s.getPar q

/-- `GETP` answers the stored bits and changes nothing (42_parameter_ops.md R131). -/
def Obligations.GetpCompletes : Prop :=
  ∀ (s : State) (p : Nat), s.Ready → p ≤ 12 →
    exec (.getp p) s = .next { s with resps := s.resps ++ [⟨false, s.getPar p⟩] }

/-- A value written by `SETP` is read back bit for bit by `GETP` (10_state.md R25,
42_parameter_ops.md R131). -/
def Obligations.SetpThenGetpRoundTrip : Prop :=
  ∀ (s : State) (p : Nat) (v : Word), s.Ready → p ≤ 12 →
    ∃ t u, exec (.setp p v) s = .next t ∧ exec (.getp p) t = .next u ∧
      u.resps = s.resps ++ [⟨false, 0⟩, ⟨false, v⟩]

/-- `TCDIRTY` answers the flag and clears it, in one command (42_parameter_ops.md R132,
20_memory.md R59). -/
def Obligations.TcdirtyCompletes : Prop :=
  ∀ s : State, s.Ready → exec .tcdirty s = .next { s with
    dirty := false, resps := s.resps ++ [⟨false, if s.dirty then 1 else 0⟩] }

/-- `RDCOEF` answers the stored coefficient, of a bypassed section too, and changes nothing
(42_parameter_ops.md R134, 10_state.md R31). -/
def Obligations.RdcoefCompletes : Prop :=
  ∀ (s : State) (n k : Nat) (c : Coefs), s.Ready → k ≤ 4 → s.coef[n]? = some c →
    ∃ v, [c.b0, c.b1, c.b2, c.a1, c.a2][k]? = some v ∧
      exec (.rdcoef n k) s = .next { s with resps := s.resps ++ [⟨false, v⟩] }

/-- `RDSR` answers the system register and changes nothing, also while `FAULT = 1`
(42_parameter_ops.md R135). -/
def Obligations.RdsrCompletes : Prop :=
  ∀ (s : State) (r : Nat), r ≤ 12 →
    exec (.rdsr r) s = .next { s with resps := s.resps ++ [⟨false, sysReg .reference r s⟩] }

/-- The fields of the system registers, reserved bits reading 0 (10_state.md R30). -/
def Obligations.SystemRegisterFields : Prop :=
  ∀ s : State,
    ((sysReg .reference 0 s).getLsbD 0 = s.prepared ∧ (sysReg .reference 0 s).getLsbD 1 = s.fault ∧
      (sysReg .reference 0 s).getLsbD 2 = s.dirty ∧ (sysReg .reference 0 s).getLsbD 3 = false ∧
      (sysReg .reference 0 s).extractLsb' 4 4 = s.cause ∧ (sysReg .reference 0 s).extractLsb' 8 24 = 0) ∧
    sysReg .reference 2 s ++ sysReg .reference 1 s = s.finfo ∧ sysReg .reference 3 s = s.fs ∧
    ((sysReg .reference 4 s).extractLsb' 0 2 = s.nch ∧ (sysReg .reference 4 s).extractLsb' 2 14 = 0 ∧
      (sysReg .reference 4 s).extractLsb' 16 16 = s.maxblk) ∧
    ((∀ n < 9, (sysReg .reference 5 s).getLsbD n = s.getAct n) ∧ (sysReg .reference 5 s).extractLsb' 9 3 = 0 ∧
      (sysReg .reference 5 s).extractLsb' 12 4 = s.kindr ∧ (sysReg .reference 5 s).extractLsb' 16 16 = 0) ∧
    sysReg .reference 6 s = s.preg ∧ sysReg .reference 7 s = s.biasr ∧ sysReg .reference 8 s = s.amtr ∧ sysReg .reference 9 s = s.postg ∧
    sysReg .reference 10 s = s.mixt ∧ sysReg .reference 11 s = s.mixcur ∧ sysReg .reference 12 s = 0x09011000#32

/-! ## Samples -/

/-- `PUT` writes one word of `BUF` and nothing else; the address is `sampleKey c i`
(43_signal_chain.md R140; the key and the canonical form are the model's, log 9). -/
def Obligations.PutCompletes : Prop :=
  ∀ (s : State) (c i : Nat) (x : Word), s.ReadyInSession → s.buf.wf → c < s.nch.toNat →
    i < s.maxblk.toNat →
    ∃ t, exec (.put c i x) s = .next t ∧
      t = { s with buf := t.buf, resps := s.resps ++ [⟨false, 0⟩] } ∧ t.buf.wf ∧
      t.getBuf c i = x ∧ ∀ key, key ≠ sampleKey c i → t.buf.read key = s.buf.read key

/-- `GET` answers the word of `BUF` and changes nothing (43_signal_chain.md R142). -/
def Obligations.GetCompletes : Prop :=
  ∀ (s : State) (c i : Nat), s.ReadyInSession → c < s.nch.toNat → i < s.maxblk.toNat →
    exec (.get c i) s = .next { s with resps := s.resps ++ [⟨false, s.getBuf c i⟩] }

/-! ## The coefficient updater -/

/-- `UPDATE` binds the coefficients, the activity bits and the six scalars from the parameters and the
sample rate, and changes nothing else (45_coefficient_update.md R190, R209). -/
def Obligations.UpdateCompletes : Prop :=
  ∀ s : State, s.ReadyInSession → ∃ t, exec .update s = .next t ∧
    t = { s.withBinding t with resps := s.resps ++ [⟨false, 0⟩], freeIx := t.freeIx } ∧ t.BoundFrom .reference s

/-- After `UPDATE` each cascade has exactly as many active sections as its slope order asks, 12 dB an
octave each, with no gap (10_state.md R23, R32, 45_coefficient_update.md R193). -/
def Obligations.SlopeOrderCountsActiveSections : Prop :=
  ∀ s t : State, s.ReadyInSession → exec .update s = .next t →
    (∀ j < 4, t.getAct j = decide (12 * (j + 1) ≤ 12 * (min (s.getPar 1).toNat 3 + 1))) ∧
    (∀ j < 4, t.getAct (5 + j) = decide (12 * (j + 1) ≤ 12 * (min (s.getPar 6).toNat 3 + 1))) ∧
    ((List.range 4).countP (fun j => t.getAct j)) = min (s.getPar 1).toNat 3 + 1 ∧
    ((List.range 4).countP (fun j => t.getAct (5 + j))) = min (s.getPar 6).toNat 3 + 1

/-- Each field of the snapshot is its own register's value where that is in the declared range, the
nearer bound where it is outside, and the default where it is a NaN; a slope above 3 is 3, and a kind
above 8 is kind 0 (45_coefficient_update.md R191, 40_numerics.md R109, R110, 10_state.md R21, R22). -/
def Obligations.SnapshotInRange : Prop :=
  ∀ s : State,
    let p := snapshot .reference s
    ClampedFrom p.lcf (s.getPar 0) 0x41A00000#32 0x469C4000#32 0x41A00000#32 ∧
    p.lcq = min (s.getPar 1).toNat 3 ∧
    ClampedFrom p.pkf (s.getPar 2) 0x41A00000#32 0x469C4000#32 0x447A0000#32 ∧
    ClampedFrom p.pkg (s.getPar 3) 0xC2100000#32 0x42100000#32 0x00000000#32 ∧
    ClampedFrom p.pkq (s.getPar 4) 0x3DCCCCCD#32 0x41200000#32 0x3F800000#32 ∧
    ClampedFrom p.hcf (s.getPar 5) 0x41A00000#32 0x469C4000#32 0x469C4000#32 ∧
    p.hcq = min (s.getPar 6).toNat 3 ∧
    ClampedFrom p.pre (s.getPar 7) 0xC2100000#32 0x42100000#32 0x00000000#32 ∧
    ClampedFrom p.bia (s.getPar 8) 0xBF800000#32 0x3F800000#32 0x00000000#32 ∧
    ClampedFrom p.amt (s.getPar 9) 0x00000000#32 0x3F7D70A4#32 0x00000000#32 ∧
    p.knd = (if (s.getPar 10).toNat ≤ 8 then (s.getPar 10).toNat else 0) ∧
    ClampedFrom p.pst (s.getPar 11) 0xC2100000#32 0x42100000#32 0x00000000#32 ∧
    ClampedFrom p.mix (s.getPar 12) 0x00000000#32 0x3F800000#32 0x3F800000#32

/-- Two `UPDATE` in a row bind what one does, bit for bit (45_coefficient_update.md R206). That no
result is a NaN, whose bits would be free, follows from the contracts of the four functions. -/
def Obligations.UpdateIsIdempotent : Prop :=
  ∀ s t u : State, s.Inv → s.ReadyInSession → exec .update s = .next t → exec .update t = .next u →
    t.SameBinding u

/-- With the peak gain at 0 dB, either zero, the peak section has b0 = 1.0, b1 = a1 and b2 = a2, bit for
bit (45_coefficient_update.md R203). -/
def Obligations.FlatPeakCoefficients : Prop :=
  ∀ s t : State, s.Inv → s.ReadyInSession → isZero (s.getPar 3) = true → exec .update s = .next t →
    (t.getCoef 4).b0 = 0x3F800000#32 ∧ (t.getCoef 4).b1 = (t.getCoef 4).a1 ∧
      (t.getCoef 4).b2 = (t.getCoef 4).a2

/-! ## The signal chain -/

/-- A section with b0 = 1.0, b1 = a1, b2 = a2 and cleared delay values passes a finite sample, other than
-0.0, unchanged and stays cleared, as long as its two products are finite (45_coefficient_update.md
R203; that the products must be finite is log 20). -/
def Obligations.FlatSectionIsIdentity : Prop :=
  ∀ (k : Site) (c : Coefs) (x : Word), c.b0 = 0x3F800000#32 → c.b1 = c.a1 → c.b2 = c.a2 →
    isFinite x = true → x ≠ 0x80000000#32 → (∀ k', isFinite (fmul k' c.a1 x) = true) →
    (∀ k', isFinite (fmul k' c.a2 x) = true) → biquad k c ⟨0, 0⟩ x = (x, ⟨0, 0⟩)

/-- The section with the reset coefficients and cleared delay values: a finite sample other than -0.0
passes unchanged and the delay values stay cleared; -0.0 becomes +0.0, and leaves a -0.0 in the second
delay value (log 20); an infinite sample passes and leaves a NaN (43_signal_chain.md R143). -/
def Obligations.ResetSectionBehaviour : Prop :=
  ∀ (k : Site) (x : Word),
    (isFinite x = true → x ≠ 0x80000000#32 → biquad k Coefs.identity ⟨0, 0⟩ x = (x, ⟨0, 0⟩)) ∧
    biquad k Coefs.identity ⟨0, 0⟩ 0x80000000#32 = (0, ⟨0, 0x80000000#32⟩) ∧
    (isInf x = true → (biquad k Coefs.identity ⟨0, 0⟩ x).1 = x ∧
      isNaN (biquad k Coefs.identity ⟨0, 0⟩ x).2.z1 = true)

/-- A bypassed section passes its 32 bits with no arithmetic, and keeps its delay values. A cascade is
its active sections in ascending order and nothing else, so under an active prefix of n it is its first
n sections, and with no active section the identity; and one sample of the chain leaves the delay
values of every section that is not active as they were (43_signal_chain.md R144 to R146). -/
def Obligations.BypassIsIdentity : Prop :=
  (∀ (k : Site) (s : State) (base : Nat) (v : Word × Vector Delay 9),
    cascade k s base v = ((List.range 4).filter (fun j => s.getAct (base + j))).foldl
      (fun v j => sectionStep (j :: k) s (base + j) v) v) ∧
  (∀ (k : Site) (s : State) (base n : Nat) (v : Word × Vector Delay 9),
    n ≤ 4 → s.ActivePrefix base n → cascade k s base v =
      (List.range n).foldl (fun v j => sectionStep (j :: k) s (base + j) v) v) ∧
  (∀ (k : Site) (s : State) (base : Nat) (v : Word × Vector Delay 9),
    (∀ j < 4, s.getAct (base + j) = false) → cascade k s base v = v) ∧
  ∀ (k : Site) (s : State) (zs : Vector Delay 9) (x : Word) (n : Nat),
    s.getAct n = false → n ≠ 4 → (chainSample .reference k s zs x).2[n]? = zs[n]?

/-- `PROCESS` binds as `UPDATE` does, settles the mix unless the block is empty, and writes only the
first n words of each session channel of `BUF` and `DRY`, and the delay values of active sections of
session channels (43_signal_chain.md R141, 20_memory.md R64; the keys are the model's, log 9). -/
def Obligations.ProcessCompletes : Prop :=
  ∀ (s : State) (n : Nat), s.ReadyInSession → n ≤ s.maxblk.toNat →
    ∃ t, exec (.process n) s = .next t ∧
      t = { s.withBinding t with
        z := t.z, buf := t.buf, dry := t.dry, mixcur := if n = 0 then s.mixcur else t.mixt
        resps := s.resps ++ [⟨false, 0⟩], freeIx := t.freeIx } ∧
      t.BoundFrom .reference s ∧
      (∀ key, (∀ c < s.nch.toNat, ∀ i < n, key ≠ sampleKey c i) →
        t.buf.read key = s.buf.read key ∧ t.dry.read key = s.dry.read key) ∧
      (∀ c, s.nch.toNat ≤ c ∨ n = 0 → t.getZ c = s.getZ c) ∧
      ∀ c m, t.getAct m = false → m ≠ 4 → (t.getZ c)[m]? = (s.getZ c)[m]?

/-- The in-place block loop of `PROCESS` computes, for each session channel, the stream function of the
chain on the samples the channel held and the delay values it had, and keeps those samples in `DRY`
(43_signal_chain.md R141, R148, R152, R153, 20_memory.md R64). -/
def Obligations.ProcessComputesChannelStreams : Prop :=
  ∀ (s t : State) (n : Nat), s.Inv → s.ReadyInSession → n ≤ s.maxblk.toNat →
    exec (.process n) s = .next t →
    ∀ c < s.nch.toNat, ∃ k,
      channelStream .reference k c n s.mixcur t 0 (s.getZ c) (s.block c n) = (t.block c n, t.getZ c) ∧
      ∀ i < n, t.getDry c i = s.getBuf c i

/-- Channels are independent: what a channel of a block becomes depends on no sample and no delay value of
the other channel (43_signal_chain.md R156). -/
def Obligations.ChannelsAreIndependent : Prop :=
  ∀ (s s' t t' : State) (n c : Nat), s.Inv → s'.Inv → s.ReadyInSession → n ≤ s.maxblk.toNat →
    s' = { s with buf := s'.buf, z := s'.z } → (∀ i < 65536, s'.getBuf c i = s.getBuf c i) →
    s'.getZ c = s.getZ c →
    exec (.process n) s = .next t → exec (.process n) s' = .next t' →
    (∀ i < 65536, t'.getBuf c i = t.getBuf c i) ∧ t'.getZ c = t.getZ c

/-- With the mix settled at 0, fully dry, a block leaves every sample of the session that is not a NaN
equal in value to its input, whatever the filters and the waveshaper do (43_signal_chain.md R141,
R154). -/
def Obligations.SettledDryMixPassesInput : Prop :=
  ∀ (s t : State) (n c i : Nat), s.Inv → s.ReadyInSession → n ≤ s.maxblk.toNat →
    isZero s.mixcur = true → isZero (s.getPar 12) = true → exec (.process n) s = .next t →
    c < s.nch.toNat → i < n → isNaN (s.getBuf c i) = false →
    feq (t.getBuf c i) (s.getBuf c i) = true

/-- The two ends of the mix: m = +0.0 gives the dry sample in value, m = 1.0 the wet one
(43_signal_chain.md R152, R154). -/
def Obligations.MixEnds : Prop :=
  ∀ (k : Site) (dry wet : Word),
    (isNaN dry = false → isFinite wet = true → feq (mix k dry wet 0) dry = true) ∧
    (isFinite dry = true → isNaN wet = false → feq (mix k dry wet 0x3F800000#32) wet = true)

/-- When the target equals the value the last block ended on, every sample of the block is mixed at that
value (43_signal_chain.md R153). -/
def Obligations.SettledRampIsConstant : Prop :=
  ∀ (k : Site) (m0 mixt : Word) (n i : Nat), isFinite m0 = true → feq mixt m0 = true → n ≤ 4096 →
    i < n → feq (rampValue k m0 mixt n i) m0 = true

/-- The wet sample is finite whatever the input and the delay values hold (43_signal_chain.md R151, R157). -/
def Obligations.WetSampleIsFinite : Prop :=
  ∀ (k : Site) (s : State) (zs : Vector Delay 9) (x : Word), s.Inv →
    isFinite (chainSample .reference k s zs x).1 = true

/-! ## The waveshaper -/

/-- Every kind's result is not a NaN and lies in [-1, 1], for every operand, whatever functions stand for
the sine and the cosine; and it is a function of its two operands only, so that no free value reaches
it, for the model's sine and cosine and for all that send every NaN to a NaN, as 40_numerics.md R105 and
R106 ask (44_waveshaper.md R171, R172). -/
def Obligations.WaveshaperContract : Prop :=
  (∀ (sin cos : Word → Word) (k : Site) (kind : Kind) (x a : Word),
    within 0xBF800000#32 0x3F800000#32 (shape sin cos k kind x a) = true ∧
      isNaN (shape sin cos k kind x a) = false) ∧
  (∀ (k k' : Site) (kind : Kind) (x a : Word),
    shape f_sin f_cos k kind x a = shape f_sin f_cos k' kind x a) ∧
  ∀ sin cos : Word → Word, (∀ x, isNaN x = true → isNaN (sin x) = true ∧ isNaN (cos x) = true) →
    ∀ (k k' : Site) (kind : Kind) (x a : Word),
      shape sin cos k kind x a = shape sin cos k' kind x a

/-- `HARDCLIP` is odd, and passes a sample within the threshold bit for bit (44_waveshaper.md R173). -/
def Obligations.HardclipOddAndTransparent : Prop :=
  ∀ (k k' : Site) (x a : Word), isNaN x = false → within 0 0x3F7D70A4#32 a = true →
    shape f_sin f_cos k .hardclip (fneg x) a = fneg (shape f_sin f_cos k' .hardclip x a) ∧
    (fle (fabs x) (fsub k' 0x3F800000#32 a) = true → shape f_sin f_cos k .hardclip x a = x)

/-- A zero in gives a zero out, for every kind and every amount in range: +0.0 for +0.0, and -0.0 for
-0.0, except +0.0 for `HOLLOWING` (44_waveshaper.md R183). That `HOLLOWING` gives -0.0 where both the
sample and the amount are -0.0 is the model's choice, log 21. -/
def Obligations.WaveshaperZeroInZeroOut : Prop :=
  ∀ (k : Site) (a : Word), within 0 0x3F7D70A4#32 a = true →
    (∀ kind, shape f_sin f_cos k kind 0 a = 0) ∧
    (∀ kind ≠ Kind.hollowing, shape f_sin f_cos k kind 0x80000000#32 a = 0x80000000#32) ∧
    shape f_sin f_cos k .hollowing 0x80000000#32 a =
      (if a = 0x80000000#32 then 0x80000000#32 else 0)

/-- At amount +0.0 five of the kinds are the output clamp, in value: `HARDCLIP` on every sample,
`SOFTCLIP` and `WARM` on every one that is not an infinity, `HOLLOWING` and `RASH` on every NaN and
every one whose product with pi, or with 512, is finite (44_waveshaper.md R184; that the rule's "every
x" leaves out the other samples is log 21). -/
def Obligations.FiveKindsTransparentAtZeroAmount : Prop :=
  ∀ (k : Site) (x : Word),
    feq (shape f_sin f_cos k .hardclip x 0) (sat1 x) = true ∧
    (isInf x = false → feq (shape f_sin f_cos k .softclip x 0) (sat1 x) = true ∧
      feq (shape f_sin f_cos k .warm x 0) (sat1 x) = true) ∧
    (isNaN x = true ∨ isFinite (fmul k 0x40490FDB#32 x) = true →
      feq (shape f_sin f_cos k .hollowing x 0) (sat1 x) = true) ∧
    (isNaN x = true ∨ isFinite (fmul k x 0x44000000#32) = true →
      feq (shape f_sin f_cos k .rash x 0) (sat1 x) = true)

/-! ## Numerics -/

/-- `sat1` (40_numerics.md R108). -/
def Obligations.Sat1Clamps : Prop :=
  ∀ v : Word,
    within 0xBF800000#32 0x3F800000#32 (sat1 v) = true ∧ isNaN (sat1 v) = false ∧
    (isNaN v = true → sat1 v = 0) ∧ (fgt v 0x3F800000#32 = true → sat1 v = 0x3F800000#32) ∧
    (flt v 0xBF800000#32 = true → sat1 v = 0xBF800000#32) ∧
    (within 0xBF800000#32 0x3F800000#32 v = true → sat1 v = v) ∧
    sat1 0x7F800000#32 = 0x3F800000#32 ∧ sat1 0xFF800000#32 = 0xBF800000#32

/-- `clampF` (40_numerics.md R109). -/
def Obligations.ClampFStaysInRange : Prop :=
  ∀ v lo hi d : Word, isFinite lo = true → isFinite hi = true → fle lo hi = true →
    within lo hi d = true →
    within lo hi (clampF v lo hi d) = true ∧ isNaN (clampF v lo hi d) = false ∧
    (isNaN v = true → clampF v lo hi d = d) ∧ (flt v lo = true → clampF v lo hi d = lo) ∧
    (fgt v hi = true → clampF v lo hi d = hi) ∧ (within lo hi v = true → clampF v lo hi d = v) ∧
    clampF 0x7F800000#32 lo hi d = hi ∧ clampF 0xFF800000#32 lo hi d = lo

/-- Rounding is to nearest, ties to even, and overflows exactly from half a unit above the largest finite
value: of a rational p / q in units of 2^-149, no finite value is nearer, a tie goes to the even
pattern (40_numerics.md R90, R91, R92). -/
def Obligations.RoundingIsNearestEven : Prop :=
  ∀ (neg : Bool) (p q : Nat), 0 < q →
    let r := roundTo neg p q
    signBit r = neg ∧ isNaN r = false ∧
    (isFinite r = true ↔ p < q * ((2 ^ 25 - 1) * 2 ^ 252)) ∧
    ∀ c : Word, isFinite r = true → isFinite c = true →
      |((mag r * q : Nat) : Int) - p| ≤ |((mag c * q : Nat) : Int) - p| ∧
      (|((mag r * q : Nat) : Int) - p| = |((mag c * q : Nat) : Int) - p| → mag c ≠ mag r →
        r.getLsbD 0 = false)

/-- Sum, difference, product and quotient of finite operands, square root, and conversion of an integer
are correctly rounded: nearest, ties to even, overflowing as the rule says; and `frint` is the nearest
integer value, ties to the even integer, with the operand's sign, exactly (40_numerics.md R91 to R93,
R95, R96). A unit of `value` is 2^-149. -/
def Obligations.ArithmeticIsCorrectlyRounded : Prop :=
  (∀ (k : Site) (a b : Word), isFinite a = true → isFinite b = true →
    CorrectlyRounded (fadd k a b) (value a + value b) ∧
    CorrectlyRounded (fsub k a b) (value a - value b) ∧
    CorrectlyRounded (fmul k a b) (value a * value b / 2 ^ 149) ∧
    (isZero b = false → CorrectlyRounded (fdiv k a b) (value a * 2 ^ 149 / value b)) ∧
    (0 ≤ value a → CorrectlyRounded (fsqrt k a) (Real.sqrt (value a * 2 ^ 149)))) ∧
  (∀ n : Nat, CorrectlyRounded (u2f n) (n * 2 ^ 149) ∧
    (n ≤ 2 ^ 24 → isFinite (u2f n) = true ∧ value (u2f n) = n * 2 ^ 149)) ∧
  ∀ a : Word,
    (isFinite a = false → frint a = a) ∧
    (isFinite a = true → isFinite (frint a) = true ∧ signBit (frint a) = signBit a ∧
      ∃ m : Int, value (frint a) = m * 2 ^ 149 ∧ ∀ m' : Int,
        |m * 2 ^ 149 - value a| ≤ |m' * 2 ^ 149 - value a| ∧
        (|m * 2 ^ 149 - value a| = |m' * 2 ^ 149 - value a| → m' ≠ m → m % 2 = 0))

/-- The special operands of the arithmetic primitives: NaN, infinities, zeros, the sign of a zero or an
infinite result, and those of the square root (40_numerics.md R92, R93). -/
def Obligations.SpecialOperands : Prop :=
  ∀ (k : Site) (a b : Word),
    (isNaN a = true ∨ isNaN b = true →
      isNaN (fadd k a b) = true ∧ isNaN (fsub k a b) = true ∧ isNaN (fmul k a b) = true ∧
        isNaN (fdiv k a b) = true) ∧
    (isInf a = true → isInf b = true →
      (signBit a = signBit b → fadd k a b = a ∧ isNaN (fsub k a b) = true) ∧
      (signBit a ≠ signBit b → isNaN (fadd k a b) = true ∧ fsub k a b = a) ∧
      isNaN (fdiv k a b) = true) ∧
    (isInf a = true → isFinite b = true →
      fadd k a b = a ∧ fadd k b a = a ∧ fsub k a b = a ∧ fsub k b a = fneg a ∧
      fdiv k a b = infinity (signBit a != signBit b) ∧ fdiv k b a = zeroOf (signBit a != signBit b)) ∧
    (isInf a = true → isNaN b = false → isZero b = false →
      fmul k a b = infinity (signBit a != signBit b) ∧
      fmul k b a = infinity (signBit a != signBit b)) ∧
    (isZero a = true → isInf b = true → isNaN (fmul k a b) = true ∧ isNaN (fmul k b a) = true) ∧
    (isZero a = true → isZero b = true → isNaN (fdiv k a b) = true) ∧
    (isNaN a = false → isZero a = false → isZero b = true →
      fdiv k a b = infinity (signBit a != signBit b)) ∧
    (isNaN (fmul k a b) = false → signBit (fmul k a b) = (signBit a != signBit b)) ∧
    (isNaN (fdiv k a b) = false → signBit (fdiv k a b) = (signBit a != signBit b)) ∧
    (isFinite a = true → isFinite b = true →
      (value a + value b = 0 →
        fadd k a b = if a = 0x80000000#32 ∧ b = 0x80000000#32 then 0x80000000#32 else 0) ∧
      (value a - value b = 0 →
        fsub k a b = if a = 0x80000000#32 ∧ b = 0 then 0x80000000#32 else 0)) ∧
    (isNaN (fsqrt k a) = true ↔ isNaN a = true ∨ (signBit a = true ∧ isZero a = false)) ∧
    fsqrt k 0x80000000#32 = 0x80000000#32 ∧ fsqrt k 0 = 0 ∧ fsqrt k 0x7F800000#32 = 0x7F800000#32

/-- The exact facts of 40_numerics.md R111. Product and sum commute wherever the result is not a NaN, the
bits of which are free (R98). -/
def Obligations.ExactArithmeticFacts : Prop :=
  ∀ (k : Site) (a b c : Word),
    (isNaN a = false → fmul k a 0x3F800000#32 = a ∧ fmul k 0x3F800000#32 a = a) ∧
    (isNaN a = false → a ≠ 0x80000000#32 → fadd k a 0 = a) ∧ fadd k 0x80000000#32 0 = 0 ∧
    (isFinite a = true → fsub k a a = 0) ∧
    (isFinite a = true → isZero a = false → fdiv k a a = 0x3F800000#32) ∧
    (isFinite a = true → isZero (fmul k a 0) = true) ∧
    fsub k 0x3F800000#32 0x3F800000#32 = 0 ∧ fsub k 0x3F800000#32 0 = 0x3F800000#32 ∧
    (isNaN a = false → isNaN b = false → isNaN (fmul k a b) = false → fmul k a b = fmul k b a) ∧
    (isNaN a = false → isNaN b = false → isNaN (fadd k a b) = false → fadd k a b = fadd k b a) ∧
    (isFinite a = true → isFinite b = true → isFinite c = true →
      (value c = value a + value b → feq (fadd k a b) c = true) ∧
      (value c = value a - value b → feq (fsub k a b) c = true) ∧
      (value c * 2 ^ 149 = value a * value b → feq (fmul k a b) c = true))

/-- The integer square root behind `fsqrt` is the integer square root, over the whole range `fsqrt` uses it
on (40_numerics.md R93). -/
def Obligations.IntegerSquareRoot : Prop :=
  ∀ n : Nat, n < 2 ^ 214 * 2 ^ 214 → isqrt n * isqrt n ≤ n ∧ n < (isqrt n + 1) * (isqrt n + 1)

/-- What the contracts of the four transcendental functions say in the bits of their results: ranges,
parity, the exact values at the zeros and the NaN cases (40_numerics.md R104 to R107). Their accuracy
is not part of this statement. -/
def Obligations.TranscendentalContracts : Prop :=
  (∀ x, within 0x39000000#32 0x3FB80000#32 x = true →
    isFinite (f_tan x) = true ∧ flt 0 (f_tan x) = true) ∧
  (f_sin 0 = 0 ∧ f_sin 0x80000000#32 = 0x80000000#32) ∧
  (∀ x, isFinite x = true → f_sin (fneg x) = fneg (f_sin x) ∧
    within 0xBF800000#32 0x3F800000#32 (f_sin x) = true) ∧
  (∀ x, isFinite x = false → isNaN (f_sin x) = true ∧ isNaN (f_cos x) = true) ∧
  (f_cos 0 = 0x3F800000#32 ∧ f_cos 0x80000000#32 = 0x3F800000#32) ∧
  (∀ x, isFinite x = true → f_cos (fneg x) = f_cos x ∧
    within 0xBF800000#32 0x3F800000#32 (f_cos x) = true) ∧
  (f_db2lin 0 = 0x3F800000#32 ∧ f_db2lin 0x80000000#32 = 0x3F800000#32) ∧
  ∀ d, within 0xC2100000#32 0x42100000#32 d = true →
    isFinite (f_db2lin d) = true ∧ flt 0 (f_db2lin d) = true

/-! ## Invariants and whole-machine rules -/

/-- The reset state meets the invariant, and its coefficients are finite (10_state.md R36; the canonical
form of the sample stores is the model's, log 9). -/
def Obligations.ResetMeetsInvariant : Prop := State.reset.Inv ∧ State.reset.CoefFinite

/-- Every step keeps the invariant: the session registers (10_state.md R26), the fault record
(60_exceptions.md R221), the prefix shape of the activity bits (R32), the ranges of the bound scalars
(R29), and the canonical form of the two sample stores (log 9). -/
def Obligations.StepKeepsInvariant : Prop :=
  ∀ s t : State, s.Inv → step s = .next t → t.Inv

/-- Every step keeps the stored coefficients finite (45_coefficient_update.md R205). -/
def Obligations.StepKeepsCoefficientsFinite : Prop :=
  ∀ s t : State, s.Inv → s.CoefFinite → step s = .next t → t.CoefFinite

/-- Which commands can change which state (10_state.md R25 to R34): whatever a command that is not named
for a piece of state does, it leaves that piece as it was. -/
def Obligations.OnlyNamedCommandsWrite : Prop :=
  ∀ (i : Instr) (s t : State), exec i s = .next t →
    (t.par ≠ s.par → i = .reset ∨ ∃ p v, i = .setp p v) ∧
    ((t.prepared, t.fs, t.nch, t.maxblk) ≠ (s.prepared, s.fs, s.nch, s.maxblk) →
      i = .reset ∨ ∃ a b f, i = .prepare a b f) ∧
    (¬ s.SameBinding t → i = .reset ∨ i = .update ∨ (∃ n, i = .process n) ∨
      ∃ a b f, i = .prepare a b f) ∧
    (t.z ≠ s.z ∨ t.mixcur ≠ s.mixcur →
      i = .reset ∨ (∃ n, i = .process n) ∨ ∃ a b f, i = .prepare a b f) ∧
    (t.buf ≠ s.buf → i = .reset ∨ (∃ n, i = .process n) ∨ (∃ a b f, i = .prepare a b f) ∨
      ∃ c n x, i = .put c n x) ∧
    (t.dry ≠ s.dry → i = .reset ∨ ∃ n, i = .process n) ∧
    (s.dirty = true → t.dirty = false → i = .tcdirty) ∧
    (s.dirty = false → t.dirty = true → i = .reset ∨ ∃ p v, i = .setp p v) ∧
    (s.fault = true → t.fault = false → i = .reset) ∧ t.inp = s.inp

/-- Once a fault is taken, the record of that first fault stays through every step that does not reset the
block (60_exceptions.md R228, R232). -/
def Obligations.FirstFaultRecordKept : Prop :=
  ∀ s t : State, s.fault = true → step s = .next t →
    (∀ rest, s.inp ≠ .hardReset :: rest) →
    (∀ rest, s.inp ≠ .command 0x0100000000000000#64 :: rest) →
    t.fault = true ∧ t.cause = s.cause ∧ t.finfo = s.finfo
end

