-- ==== Sys2Proof/Laws/Memory.lean ====
section
/-! SUPPORT. The sample stores: read after write, and that every operation keeps the canonical form
and lists only built words. -/

namespace Sys2Proof.Machine

/-- Every key of the store is above `k`. -/
def Mem.above (m : Mem) (k : Nat) : Prop := ∀ e ∈ m, k < e.1

theorem Mem.wf_nil : Mem.wf [] := ⟨List.Pairwise.nil, by simp⟩

theorem Mem.wf_cons_iff (a : Nat) (v : Word) (m : Mem) :
    Mem.wf ((a, v) :: m) ↔ Mem.above m a ∧ v ≠ Config.zero ∧ Mem.wf m := by
  constructor
  · rintro ⟨hp, hz⟩
    rw [List.pairwise_cons] at hp
    exact ⟨hp.1, hz (a, v) (by simp), hp.2, fun e he => hz e (by simp [he])⟩
  · rintro ⟨ha, hv, hp, hz⟩
    refine ⟨List.pairwise_cons.2 ⟨ha, hp⟩, ?_⟩
    intro e he
    rcases List.mem_cons.1 he with rfl | he
    · exact hv
    · exact hz e he

/-- A key below all listed ones reads as an unlisted word. -/
theorem Mem.read_of_above (m : Mem) (k : Nat) (h : m.above k) : m.read k = Config.zero := by
  induction m with
  | nil => rfl
  | cons e m ih =>
    obtain ⟨a, v⟩ := e
    have ha : k < a := h (a, v) (by simp)
    rw [Mem.read, if_neg (by omega)]
    exact ih fun e he => h e (by simp [he])

/-- The keys of a written store are those of the old one and the written one. -/
theorem Mem.mem_write (m : Mem) (k : Nat) (v : Word) (e : Nat × Word) (h : e ∈ m.write k v) :
    e ∈ m ∨ (e = (k, v) ∧ v ≠ Config.zero) := by
  induction m with
  | nil =>
    simp only [Mem.write] at h
    split at h <;> simp_all
  | cons x m ih =>
    obtain ⟨a, y⟩ := x
    simp only [Mem.write] at h
    split at h
    · split at h <;> simp_all
      tauto
    · split at h
      · split at h <;> simp_all
        tauto
      · rcases List.mem_cons.1 h with rfl | h
        · simp
        · rcases ih h with h | h
          · exact .inl (by simp [h])
          · exact .inr h

/-- A write keeps the canonical form. -/
theorem Mem.write_wf (m : Mem) (k : Nat) (v : Word) (h : m.wf) : (m.write k v).wf := by
  induction m with
  | nil =>
    simp only [Mem.write]
    split
    · exact Mem.wf_nil
    · exact (Mem.wf_cons_iff _ _ _).2 ⟨fun e he => by simp at he, ‹_›, Mem.wf_nil⟩
  | cons x m ih =>
    obtain ⟨a, y⟩ := x
    obtain ⟨ha, hy, hm⟩ := (Mem.wf_cons_iff _ _ _).1 h
    simp only [Mem.write]
    split
    · split
      · exact h
      · refine (Mem.wf_cons_iff _ _ _).2 ⟨?_, ‹_›, h⟩
        intro e he
        rcases List.mem_cons.1 he with rfl | he
        · assumption
        · exact Nat.lt_trans ‹k < a› (ha e he)
    · split
      · split
        · exact hm
        · subst k
          exact (Mem.wf_cons_iff _ _ _).2 ⟨ha, ‹_›, hm⟩
      · refine (Mem.wf_cons_iff _ _ _).2 ⟨?_, hy, ih hm⟩
        intro e he
        rcases Mem.mem_write m k v e he with he | ⟨rfl, -⟩
        · exact ha e he
        · simp only
          omega

/-- Reading the word just written. -/
theorem Mem.read_write_same (m : Mem) (k : Nat) (v : Word) (h : m.wf) : (m.write k v).read k = v := by
  induction m with
  | nil =>
    simp only [Mem.write]
    split <;> simp_all [Mem.read]
  | cons x m ih =>
    obtain ⟨a, y⟩ := x
    obtain ⟨ha, -, hm⟩ := (Mem.wf_cons_iff _ _ _).1 h
    simp only [Mem.write]
    split
    · split
      · subst v
        refine Mem.read_of_above _ _ fun e he => ?_
        rcases List.mem_cons.1 he with rfl | he
        · assumption
        · exact Nat.lt_trans ‹k < a› (ha e he)
      · simp [Mem.read]
    · split
      · split
        · subst v k
          exact Mem.read_of_above _ _ ha
        · simp [Mem.read]
      · rw [Mem.read, if_neg (by omega)]
        exact ih hm

/-- A write leaves every other word alone. -/
theorem Mem.read_write_other (m : Mem) (k j : Nat) (v : Word) (h : j ≠ k) :
    (m.write k v).read j = m.read j := by
  induction m with
  | nil =>
    simp only [Mem.write]
    split <;> simp [Mem.read, Ne.symm h]
  | cons x m ih =>
    obtain ⟨a, y⟩ := x
    simp only [Mem.write]
    split
    · split
      · rfl
      · rw [Mem.read, if_neg (Ne.symm h)]
    · split
      · subst k
        split <;> simp [Mem.read, Ne.symm h]
      · simp only [Mem.read, ih]

/-- A write at a built key lists only built words. -/
theorem Mem.write_built (P : Params) (m : Mem) (k : Nat) (v : Word) (h : m.Built P) (hk : isSampleKey P k = true) :
    (m.write k v).Built P := by
  intro e he
  rcases Mem.mem_write m k v e he with he | ⟨rfl, -⟩
  · exact h e he
  · exact hk

/-- Contents built from a list of words are canonical and list only built words. -/
theorem Mem.ofWords_wf_built (P : Params) (l : List (Nat × Word)) : (Mem.ofWords P l).wf ∧ (Mem.ofWords P l).Built P := by
  have key : ∀ (l : List (Nat × Word)) (m : Mem), m.wf → m.Built P →
      (l.foldl (fun m e => if isSampleKey P e.1 then m.write e.1 e.2 else m) m).wf ∧
        (l.foldl (fun m e => if isSampleKey P e.1 then m.write e.1 e.2 else m) m).Built P := by
    intro l
    induction l with
    | nil => exact fun m hw hb => ⟨hw, hb⟩
    | cons e l ih =>
      intro m hw hb
      rw [List.foldl_cons]
      split
      · exact ih _ (Mem.write_wf _ _ _ hw) (Mem.write_built _ _ _ _ hb ‹_›)
      · exact ih _ hw hb
  exact key l [] Mem.wf_nil (by intro e he; simp at he)

/-- The stores of the reset state are canonical. -/
theorem State.reset_stores : State.reset.StoresOk := by
  refine ⟨Mem.wf_nil, Mem.wf_nil, ?_, ?_⟩ <;> intro e he <;> exact absurd he (List.not_mem_nil)

/-- Distinct samples have distinct keys. -/
theorem sampleKey_injective (c i c' i' : Nat) (hi : i < 65536) (hi' : i' < 65536)
    (h : sampleKey c i = sampleKey c' i') : c = c' ∧ i = i' := by
  unfold sampleKey at h
  omega

/-- Two samples that differ have keys that differ. -/
theorem sampleKey_ne (c i c' i' : Nat) (hi : i < 65536) (hi' : i' < 65536)
    (h : c' ≠ c ∨ i' ≠ i) : sampleKey c' i' ≠ sampleKey c i := by
  intro e
  obtain ⟨rfl, rfl⟩ := sampleKey_injective _ _ _ _ hi' hi e
  simp at h

end Sys2Proof.Machine
end

