-- ==== Sys2Proof/Laws/Numerics.lean ====
section
/-! SUPPORT. The fields of a word built from a sign and a pattern, and which results are NaN. -/

namespace Sys2Proof.Machine

theorem isNaN_asNaN (v : Word) : isNaN (asNaN v) = true := by
  unfold asNaN
  split
  · assumption
  · decide

/-- The free NaN is a NaN (40_numerics.md R98). -/
theorem isNaN_freeNaN (k : Site) : isNaN (freeNaN k) = true := isNaN_asNaN _

theorem expo_eq (a : Word) : expo a = a.toNat / 2 ^ 23 % 2 ^ 8 := by
  simp [expo, BitVec.extractLsb'_toNat, Nat.shiftRight_eq_div_pow]

theorem frac_eq (a : Word) : frac a = a.toNat % 2 ^ 23 := by
  simp [frac, BitVec.extractLsb'_toNat]

theorem signBit_eq (a : Word) : signBit a = decide (2 ^ 31 ≤ a.toNat) := by
  simp [signBit, BitVec.msb_eq_decide]

theorem withSign_toNat (neg : Bool) (m : Nat) (h : m < 2 ^ 31) :
    (withSign neg m).toNat = (if neg then 2 ^ 31 else 0) + m := by
  have hm : (BitVec.ofNat 31 m).toNat = m := by
    rw [BitVec.toNat_ofNat]
    omega
  unfold withSign
  rw [BitVec.toNat_append, hm, Nat.shiftLeft_eq, ← Nat.mul_comm, Nat.mul_comm, ← Nat.shiftLeft_eq,
    ← Nat.shiftLeft_add_eq_or_of_lt h, Nat.shiftLeft_eq]
  cases neg <;> simp

theorem signBit_withSign (neg : Bool) (m : Nat) (h : m < 2 ^ 31) : signBit (withSign neg m) = neg := by
  rw [signBit_eq, withSign_toNat neg m h]
  cases neg <;> (simp; try omega)

theorem expo_withSign (neg : Bool) (m : Nat) (h : m < 2 ^ 31) : expo (withSign neg m) = m / 2 ^ 23 := by
  rw [expo_eq, withSign_toNat neg m h]
  cases neg <;> (simp; try omega)

theorem frac_withSign (neg : Bool) (m : Nat) (h : m < 2 ^ 31) : frac (withSign neg m) = m % 2 ^ 23 := by
  rw [frac_eq, withSign_toNat neg m h]
  cases neg <;> (simp; try omega)

theorem roundMag_le (p q : Nat) : roundMag p q ≤ 0x7F800000 := Nat.min_le_left _ _

/-- A rounded value is not a NaN: it is finite or an infinity (40_numerics.md R91). -/
theorem isNaN_roundTo (neg : Bool) (p q : Nat) : isNaN (roundTo neg p q) = false := by
  have h := roundMag_le p q
  have h31 : roundMag p q < 2 ^ 31 := by omega
  simp only [isNaN, roundTo, expo_withSign _ _ h31, frac_withSign _ _ h31]
  generalize roundMag p q = r at h
  simp only [Bool.and_eq_false_imp, beq_iff_eq, bne_eq_false_iff_eq]
  omega

theorem isNaN_infinity (neg : Bool) : isNaN (infinity neg) = false := by cases neg <;> decide

theorem isNaN_zeroOf (neg : Bool) : isNaN (zeroOf neg) = false := by cases neg <;> decide

/-- A value within two bounds is not a NaN. -/
theorem isNaN_of_within (lo hi v : Word) (h : within lo hi v = true) : isNaN v = false := by
  simp only [within, fle, Bool.and_eq_true, Bool.not_eq_true'] at h
  exact h.1.1.2

end Sys2Proof.Machine
end

