-- ==== Sys2Proof/Laws/State.lean ====
section
/-! SUPPORT. One lemma for each field under each update of the state, so that no later proof unfolds a
record update. -/

namespace Sys2Proof.Machine

/-! ## State.setPar -/

@[simp] theorem State.setPar_par (s : State) (p : Nat) (v : Word) :
    (s.setPar p v).par = s.par.setIfInBounds p v := rfl
@[simp] theorem State.setPar_prepared (s : State) (p : Nat) (v : Word) :
    (s.setPar p v).prepared = s.prepared := rfl
@[simp] theorem State.setPar_fs (s : State) (p : Nat) (v : Word) :
    (s.setPar p v).fs = s.fs := rfl
@[simp] theorem State.setPar_nch (s : State) (p : Nat) (v : Word) :
    (s.setPar p v).nch = s.nch := rfl
@[simp] theorem State.setPar_maxblk (s : State) (p : Nat) (v : Word) :
    (s.setPar p v).maxblk = s.maxblk := rfl
@[simp] theorem State.setPar_dirty (s : State) (p : Nat) (v : Word) :
    (s.setPar p v).dirty = s.dirty := rfl
@[simp] theorem State.setPar_fault (s : State) (p : Nat) (v : Word) :
    (s.setPar p v).fault = s.fault := rfl
@[simp] theorem State.setPar_cause (s : State) (p : Nat) (v : Word) :
    (s.setPar p v).cause = s.cause := rfl
@[simp] theorem State.setPar_finfo (s : State) (p : Nat) (v : Word) :
    (s.setPar p v).finfo = s.finfo := rfl
@[simp] theorem State.setPar_coef (s : State) (p : Nat) (v : Word) :
    (s.setPar p v).coef = s.coef := rfl
@[simp] theorem State.setPar_act (s : State) (p : Nat) (v : Word) :
    (s.setPar p v).act = s.act := rfl
@[simp] theorem State.setPar_preg (s : State) (p : Nat) (v : Word) :
    (s.setPar p v).preg = s.preg := rfl
@[simp] theorem State.setPar_biasr (s : State) (p : Nat) (v : Word) :
    (s.setPar p v).biasr = s.biasr := rfl
@[simp] theorem State.setPar_amtr (s : State) (p : Nat) (v : Word) :
    (s.setPar p v).amtr = s.amtr := rfl
@[simp] theorem State.setPar_kindr (s : State) (p : Nat) (v : Word) :
    (s.setPar p v).kindr = s.kindr := rfl
@[simp] theorem State.setPar_postg (s : State) (p : Nat) (v : Word) :
    (s.setPar p v).postg = s.postg := rfl
@[simp] theorem State.setPar_mixt (s : State) (p : Nat) (v : Word) :
    (s.setPar p v).mixt = s.mixt := rfl
@[simp] theorem State.setPar_mixcur (s : State) (p : Nat) (v : Word) :
    (s.setPar p v).mixcur = s.mixcur := rfl
@[simp] theorem State.setPar_z (s : State) (p : Nat) (v : Word) :
    (s.setPar p v).z = s.z := rfl
@[simp] theorem State.setPar_buf (s : State) (p : Nat) (v : Word) :
    (s.setPar p v).buf = s.buf := rfl
@[simp] theorem State.setPar_dry (s : State) (p : Nat) (v : Word) :
    (s.setPar p v).dry = s.dry := rfl
@[simp] theorem State.setPar_inp (s : State) (p : Nat) (v : Word) :
    (s.setPar p v).inp = s.inp := rfl
@[simp] theorem State.setPar_resps (s : State) (p : Nat) (v : Word) :
    (s.setPar p v).resps = s.resps := rfl
@[simp] theorem State.setPar_freeIx (s : State) (p : Nat) (v : Word) :
    (s.setPar p v).freeIx = s.freeIx := rfl

/-! ## State.setDirty -/

@[simp] theorem State.setDirty_par (s : State) (b : Bool) :
    (s.setDirty b).par = s.par := rfl
@[simp] theorem State.setDirty_prepared (s : State) (b : Bool) :
    (s.setDirty b).prepared = s.prepared := rfl
@[simp] theorem State.setDirty_fs (s : State) (b : Bool) :
    (s.setDirty b).fs = s.fs := rfl
@[simp] theorem State.setDirty_nch (s : State) (b : Bool) :
    (s.setDirty b).nch = s.nch := rfl
@[simp] theorem State.setDirty_maxblk (s : State) (b : Bool) :
    (s.setDirty b).maxblk = s.maxblk := rfl
@[simp] theorem State.setDirty_dirty (s : State) (b : Bool) :
    (s.setDirty b).dirty = b := rfl
@[simp] theorem State.setDirty_fault (s : State) (b : Bool) :
    (s.setDirty b).fault = s.fault := rfl
@[simp] theorem State.setDirty_cause (s : State) (b : Bool) :
    (s.setDirty b).cause = s.cause := rfl
@[simp] theorem State.setDirty_finfo (s : State) (b : Bool) :
    (s.setDirty b).finfo = s.finfo := rfl
@[simp] theorem State.setDirty_coef (s : State) (b : Bool) :
    (s.setDirty b).coef = s.coef := rfl
@[simp] theorem State.setDirty_act (s : State) (b : Bool) :
    (s.setDirty b).act = s.act := rfl
@[simp] theorem State.setDirty_preg (s : State) (b : Bool) :
    (s.setDirty b).preg = s.preg := rfl
@[simp] theorem State.setDirty_biasr (s : State) (b : Bool) :
    (s.setDirty b).biasr = s.biasr := rfl
@[simp] theorem State.setDirty_amtr (s : State) (b : Bool) :
    (s.setDirty b).amtr = s.amtr := rfl
@[simp] theorem State.setDirty_kindr (s : State) (b : Bool) :
    (s.setDirty b).kindr = s.kindr := rfl
@[simp] theorem State.setDirty_postg (s : State) (b : Bool) :
    (s.setDirty b).postg = s.postg := rfl
@[simp] theorem State.setDirty_mixt (s : State) (b : Bool) :
    (s.setDirty b).mixt = s.mixt := rfl
@[simp] theorem State.setDirty_mixcur (s : State) (b : Bool) :
    (s.setDirty b).mixcur = s.mixcur := rfl
@[simp] theorem State.setDirty_z (s : State) (b : Bool) :
    (s.setDirty b).z = s.z := rfl
@[simp] theorem State.setDirty_buf (s : State) (b : Bool) :
    (s.setDirty b).buf = s.buf := rfl
@[simp] theorem State.setDirty_dry (s : State) (b : Bool) :
    (s.setDirty b).dry = s.dry := rfl
@[simp] theorem State.setDirty_inp (s : State) (b : Bool) :
    (s.setDirty b).inp = s.inp := rfl
@[simp] theorem State.setDirty_resps (s : State) (b : Bool) :
    (s.setDirty b).resps = s.resps := rfl
@[simp] theorem State.setDirty_freeIx (s : State) (b : Bool) :
    (s.setDirty b).freeIx = s.freeIx := rfl

/-! ## State.setCoef -/

@[simp] theorem State.setCoef_par (s : State) (n : Nat) (c : Coefs) :
    (s.setCoef n c).par = s.par := rfl
@[simp] theorem State.setCoef_prepared (s : State) (n : Nat) (c : Coefs) :
    (s.setCoef n c).prepared = s.prepared := rfl
@[simp] theorem State.setCoef_fs (s : State) (n : Nat) (c : Coefs) :
    (s.setCoef n c).fs = s.fs := rfl
@[simp] theorem State.setCoef_nch (s : State) (n : Nat) (c : Coefs) :
    (s.setCoef n c).nch = s.nch := rfl
@[simp] theorem State.setCoef_maxblk (s : State) (n : Nat) (c : Coefs) :
    (s.setCoef n c).maxblk = s.maxblk := rfl
@[simp] theorem State.setCoef_dirty (s : State) (n : Nat) (c : Coefs) :
    (s.setCoef n c).dirty = s.dirty := rfl
@[simp] theorem State.setCoef_fault (s : State) (n : Nat) (c : Coefs) :
    (s.setCoef n c).fault = s.fault := rfl
@[simp] theorem State.setCoef_cause (s : State) (n : Nat) (c : Coefs) :
    (s.setCoef n c).cause = s.cause := rfl
@[simp] theorem State.setCoef_finfo (s : State) (n : Nat) (c : Coefs) :
    (s.setCoef n c).finfo = s.finfo := rfl
@[simp] theorem State.setCoef_coef (s : State) (n : Nat) (c : Coefs) :
    (s.setCoef n c).coef = s.coef.setIfInBounds n c := rfl
@[simp] theorem State.setCoef_act (s : State) (n : Nat) (c : Coefs) :
    (s.setCoef n c).act = s.act := rfl
@[simp] theorem State.setCoef_preg (s : State) (n : Nat) (c : Coefs) :
    (s.setCoef n c).preg = s.preg := rfl
@[simp] theorem State.setCoef_biasr (s : State) (n : Nat) (c : Coefs) :
    (s.setCoef n c).biasr = s.biasr := rfl
@[simp] theorem State.setCoef_amtr (s : State) (n : Nat) (c : Coefs) :
    (s.setCoef n c).amtr = s.amtr := rfl
@[simp] theorem State.setCoef_kindr (s : State) (n : Nat) (c : Coefs) :
    (s.setCoef n c).kindr = s.kindr := rfl
@[simp] theorem State.setCoef_postg (s : State) (n : Nat) (c : Coefs) :
    (s.setCoef n c).postg = s.postg := rfl
@[simp] theorem State.setCoef_mixt (s : State) (n : Nat) (c : Coefs) :
    (s.setCoef n c).mixt = s.mixt := rfl
@[simp] theorem State.setCoef_mixcur (s : State) (n : Nat) (c : Coefs) :
    (s.setCoef n c).mixcur = s.mixcur := rfl
@[simp] theorem State.setCoef_z (s : State) (n : Nat) (c : Coefs) :
    (s.setCoef n c).z = s.z := rfl
@[simp] theorem State.setCoef_buf (s : State) (n : Nat) (c : Coefs) :
    (s.setCoef n c).buf = s.buf := rfl
@[simp] theorem State.setCoef_dry (s : State) (n : Nat) (c : Coefs) :
    (s.setCoef n c).dry = s.dry := rfl
@[simp] theorem State.setCoef_inp (s : State) (n : Nat) (c : Coefs) :
    (s.setCoef n c).inp = s.inp := rfl
@[simp] theorem State.setCoef_resps (s : State) (n : Nat) (c : Coefs) :
    (s.setCoef n c).resps = s.resps := rfl
@[simp] theorem State.setCoef_freeIx (s : State) (n : Nat) (c : Coefs) :
    (s.setCoef n c).freeIx = s.freeIx := rfl

/-! ## State.setAct -/

@[simp] theorem State.setAct_par (s : State) (n : Nat) (b : Bool) :
    (s.setAct n b).par = s.par := rfl
@[simp] theorem State.setAct_prepared (s : State) (n : Nat) (b : Bool) :
    (s.setAct n b).prepared = s.prepared := rfl
@[simp] theorem State.setAct_fs (s : State) (n : Nat) (b : Bool) :
    (s.setAct n b).fs = s.fs := rfl
@[simp] theorem State.setAct_nch (s : State) (n : Nat) (b : Bool) :
    (s.setAct n b).nch = s.nch := rfl
@[simp] theorem State.setAct_maxblk (s : State) (n : Nat) (b : Bool) :
    (s.setAct n b).maxblk = s.maxblk := rfl
@[simp] theorem State.setAct_dirty (s : State) (n : Nat) (b : Bool) :
    (s.setAct n b).dirty = s.dirty := rfl
@[simp] theorem State.setAct_fault (s : State) (n : Nat) (b : Bool) :
    (s.setAct n b).fault = s.fault := rfl
@[simp] theorem State.setAct_cause (s : State) (n : Nat) (b : Bool) :
    (s.setAct n b).cause = s.cause := rfl
@[simp] theorem State.setAct_finfo (s : State) (n : Nat) (b : Bool) :
    (s.setAct n b).finfo = s.finfo := rfl
@[simp] theorem State.setAct_coef (s : State) (n : Nat) (b : Bool) :
    (s.setAct n b).coef = s.coef := rfl
@[simp] theorem State.setAct_act (s : State) (n : Nat) (b : Bool) :
    (s.setAct n b).act = s.act.setIfInBounds n b := rfl
@[simp] theorem State.setAct_preg (s : State) (n : Nat) (b : Bool) :
    (s.setAct n b).preg = s.preg := rfl
@[simp] theorem State.setAct_biasr (s : State) (n : Nat) (b : Bool) :
    (s.setAct n b).biasr = s.biasr := rfl
@[simp] theorem State.setAct_amtr (s : State) (n : Nat) (b : Bool) :
    (s.setAct n b).amtr = s.amtr := rfl
@[simp] theorem State.setAct_kindr (s : State) (n : Nat) (b : Bool) :
    (s.setAct n b).kindr = s.kindr := rfl
@[simp] theorem State.setAct_postg (s : State) (n : Nat) (b : Bool) :
    (s.setAct n b).postg = s.postg := rfl
@[simp] theorem State.setAct_mixt (s : State) (n : Nat) (b : Bool) :
    (s.setAct n b).mixt = s.mixt := rfl
@[simp] theorem State.setAct_mixcur (s : State) (n : Nat) (b : Bool) :
    (s.setAct n b).mixcur = s.mixcur := rfl
@[simp] theorem State.setAct_z (s : State) (n : Nat) (b : Bool) :
    (s.setAct n b).z = s.z := rfl
@[simp] theorem State.setAct_buf (s : State) (n : Nat) (b : Bool) :
    (s.setAct n b).buf = s.buf := rfl
@[simp] theorem State.setAct_dry (s : State) (n : Nat) (b : Bool) :
    (s.setAct n b).dry = s.dry := rfl
@[simp] theorem State.setAct_inp (s : State) (n : Nat) (b : Bool) :
    (s.setAct n b).inp = s.inp := rfl
@[simp] theorem State.setAct_resps (s : State) (n : Nat) (b : Bool) :
    (s.setAct n b).resps = s.resps := rfl
@[simp] theorem State.setAct_freeIx (s : State) (n : Nat) (b : Bool) :
    (s.setAct n b).freeIx = s.freeIx := rfl

/-! ## State.setZ -/

@[simp] theorem State.setZ_par (s : State) (c : Nat) (zs : Vector Delay 9) :
    (s.setZ c zs).par = s.par := rfl
@[simp] theorem State.setZ_prepared (s : State) (c : Nat) (zs : Vector Delay 9) :
    (s.setZ c zs).prepared = s.prepared := rfl
@[simp] theorem State.setZ_fs (s : State) (c : Nat) (zs : Vector Delay 9) :
    (s.setZ c zs).fs = s.fs := rfl
@[simp] theorem State.setZ_nch (s : State) (c : Nat) (zs : Vector Delay 9) :
    (s.setZ c zs).nch = s.nch := rfl
@[simp] theorem State.setZ_maxblk (s : State) (c : Nat) (zs : Vector Delay 9) :
    (s.setZ c zs).maxblk = s.maxblk := rfl
@[simp] theorem State.setZ_dirty (s : State) (c : Nat) (zs : Vector Delay 9) :
    (s.setZ c zs).dirty = s.dirty := rfl
@[simp] theorem State.setZ_fault (s : State) (c : Nat) (zs : Vector Delay 9) :
    (s.setZ c zs).fault = s.fault := rfl
@[simp] theorem State.setZ_cause (s : State) (c : Nat) (zs : Vector Delay 9) :
    (s.setZ c zs).cause = s.cause := rfl
@[simp] theorem State.setZ_finfo (s : State) (c : Nat) (zs : Vector Delay 9) :
    (s.setZ c zs).finfo = s.finfo := rfl
@[simp] theorem State.setZ_coef (s : State) (c : Nat) (zs : Vector Delay 9) :
    (s.setZ c zs).coef = s.coef := rfl
@[simp] theorem State.setZ_act (s : State) (c : Nat) (zs : Vector Delay 9) :
    (s.setZ c zs).act = s.act := rfl
@[simp] theorem State.setZ_preg (s : State) (c : Nat) (zs : Vector Delay 9) :
    (s.setZ c zs).preg = s.preg := rfl
@[simp] theorem State.setZ_biasr (s : State) (c : Nat) (zs : Vector Delay 9) :
    (s.setZ c zs).biasr = s.biasr := rfl
@[simp] theorem State.setZ_amtr (s : State) (c : Nat) (zs : Vector Delay 9) :
    (s.setZ c zs).amtr = s.amtr := rfl
@[simp] theorem State.setZ_kindr (s : State) (c : Nat) (zs : Vector Delay 9) :
    (s.setZ c zs).kindr = s.kindr := rfl
@[simp] theorem State.setZ_postg (s : State) (c : Nat) (zs : Vector Delay 9) :
    (s.setZ c zs).postg = s.postg := rfl
@[simp] theorem State.setZ_mixt (s : State) (c : Nat) (zs : Vector Delay 9) :
    (s.setZ c zs).mixt = s.mixt := rfl
@[simp] theorem State.setZ_mixcur (s : State) (c : Nat) (zs : Vector Delay 9) :
    (s.setZ c zs).mixcur = s.mixcur := rfl
@[simp] theorem State.setZ_z (s : State) (c : Nat) (zs : Vector Delay 9) :
    (s.setZ c zs).z = s.z.setIfInBounds c zs := rfl
@[simp] theorem State.setZ_buf (s : State) (c : Nat) (zs : Vector Delay 9) :
    (s.setZ c zs).buf = s.buf := rfl
@[simp] theorem State.setZ_dry (s : State) (c : Nat) (zs : Vector Delay 9) :
    (s.setZ c zs).dry = s.dry := rfl
@[simp] theorem State.setZ_inp (s : State) (c : Nat) (zs : Vector Delay 9) :
    (s.setZ c zs).inp = s.inp := rfl
@[simp] theorem State.setZ_resps (s : State) (c : Nat) (zs : Vector Delay 9) :
    (s.setZ c zs).resps = s.resps := rfl
@[simp] theorem State.setZ_freeIx (s : State) (c : Nat) (zs : Vector Delay 9) :
    (s.setZ c zs).freeIx = s.freeIx := rfl

/-! ## State.setBuf -/

@[simp] theorem State.setBuf_par (s : State) (c i : Nat) (v : Word) :
    (s.setBuf c i v).par = s.par := rfl
@[simp] theorem State.setBuf_prepared (s : State) (c i : Nat) (v : Word) :
    (s.setBuf c i v).prepared = s.prepared := rfl
@[simp] theorem State.setBuf_fs (s : State) (c i : Nat) (v : Word) :
    (s.setBuf c i v).fs = s.fs := rfl
@[simp] theorem State.setBuf_nch (s : State) (c i : Nat) (v : Word) :
    (s.setBuf c i v).nch = s.nch := rfl
@[simp] theorem State.setBuf_maxblk (s : State) (c i : Nat) (v : Word) :
    (s.setBuf c i v).maxblk = s.maxblk := rfl
@[simp] theorem State.setBuf_dirty (s : State) (c i : Nat) (v : Word) :
    (s.setBuf c i v).dirty = s.dirty := rfl
@[simp] theorem State.setBuf_fault (s : State) (c i : Nat) (v : Word) :
    (s.setBuf c i v).fault = s.fault := rfl
@[simp] theorem State.setBuf_cause (s : State) (c i : Nat) (v : Word) :
    (s.setBuf c i v).cause = s.cause := rfl
@[simp] theorem State.setBuf_finfo (s : State) (c i : Nat) (v : Word) :
    (s.setBuf c i v).finfo = s.finfo := rfl
@[simp] theorem State.setBuf_coef (s : State) (c i : Nat) (v : Word) :
    (s.setBuf c i v).coef = s.coef := rfl
@[simp] theorem State.setBuf_act (s : State) (c i : Nat) (v : Word) :
    (s.setBuf c i v).act = s.act := rfl
@[simp] theorem State.setBuf_preg (s : State) (c i : Nat) (v : Word) :
    (s.setBuf c i v).preg = s.preg := rfl
@[simp] theorem State.setBuf_biasr (s : State) (c i : Nat) (v : Word) :
    (s.setBuf c i v).biasr = s.biasr := rfl
@[simp] theorem State.setBuf_amtr (s : State) (c i : Nat) (v : Word) :
    (s.setBuf c i v).amtr = s.amtr := rfl
@[simp] theorem State.setBuf_kindr (s : State) (c i : Nat) (v : Word) :
    (s.setBuf c i v).kindr = s.kindr := rfl
@[simp] theorem State.setBuf_postg (s : State) (c i : Nat) (v : Word) :
    (s.setBuf c i v).postg = s.postg := rfl
@[simp] theorem State.setBuf_mixt (s : State) (c i : Nat) (v : Word) :
    (s.setBuf c i v).mixt = s.mixt := rfl
@[simp] theorem State.setBuf_mixcur (s : State) (c i : Nat) (v : Word) :
    (s.setBuf c i v).mixcur = s.mixcur := rfl
@[simp] theorem State.setBuf_z (s : State) (c i : Nat) (v : Word) :
    (s.setBuf c i v).z = s.z := rfl
@[simp] theorem State.setBuf_buf (s : State) (c i : Nat) (v : Word) :
    (s.setBuf c i v).buf = s.buf.write (sampleKey c i) v := rfl
@[simp] theorem State.setBuf_dry (s : State) (c i : Nat) (v : Word) :
    (s.setBuf c i v).dry = s.dry := rfl
@[simp] theorem State.setBuf_inp (s : State) (c i : Nat) (v : Word) :
    (s.setBuf c i v).inp = s.inp := rfl
@[simp] theorem State.setBuf_resps (s : State) (c i : Nat) (v : Word) :
    (s.setBuf c i v).resps = s.resps := rfl
@[simp] theorem State.setBuf_freeIx (s : State) (c i : Nat) (v : Word) :
    (s.setBuf c i v).freeIx = s.freeIx := rfl

/-! ## State.setDry -/

@[simp] theorem State.setDry_par (s : State) (c i : Nat) (v : Word) :
    (s.setDry c i v).par = s.par := rfl
@[simp] theorem State.setDry_prepared (s : State) (c i : Nat) (v : Word) :
    (s.setDry c i v).prepared = s.prepared := rfl
@[simp] theorem State.setDry_fs (s : State) (c i : Nat) (v : Word) :
    (s.setDry c i v).fs = s.fs := rfl
@[simp] theorem State.setDry_nch (s : State) (c i : Nat) (v : Word) :
    (s.setDry c i v).nch = s.nch := rfl
@[simp] theorem State.setDry_maxblk (s : State) (c i : Nat) (v : Word) :
    (s.setDry c i v).maxblk = s.maxblk := rfl
@[simp] theorem State.setDry_dirty (s : State) (c i : Nat) (v : Word) :
    (s.setDry c i v).dirty = s.dirty := rfl
@[simp] theorem State.setDry_fault (s : State) (c i : Nat) (v : Word) :
    (s.setDry c i v).fault = s.fault := rfl
@[simp] theorem State.setDry_cause (s : State) (c i : Nat) (v : Word) :
    (s.setDry c i v).cause = s.cause := rfl
@[simp] theorem State.setDry_finfo (s : State) (c i : Nat) (v : Word) :
    (s.setDry c i v).finfo = s.finfo := rfl
@[simp] theorem State.setDry_coef (s : State) (c i : Nat) (v : Word) :
    (s.setDry c i v).coef = s.coef := rfl
@[simp] theorem State.setDry_act (s : State) (c i : Nat) (v : Word) :
    (s.setDry c i v).act = s.act := rfl
@[simp] theorem State.setDry_preg (s : State) (c i : Nat) (v : Word) :
    (s.setDry c i v).preg = s.preg := rfl
@[simp] theorem State.setDry_biasr (s : State) (c i : Nat) (v : Word) :
    (s.setDry c i v).biasr = s.biasr := rfl
@[simp] theorem State.setDry_amtr (s : State) (c i : Nat) (v : Word) :
    (s.setDry c i v).amtr = s.amtr := rfl
@[simp] theorem State.setDry_kindr (s : State) (c i : Nat) (v : Word) :
    (s.setDry c i v).kindr = s.kindr := rfl
@[simp] theorem State.setDry_postg (s : State) (c i : Nat) (v : Word) :
    (s.setDry c i v).postg = s.postg := rfl
@[simp] theorem State.setDry_mixt (s : State) (c i : Nat) (v : Word) :
    (s.setDry c i v).mixt = s.mixt := rfl
@[simp] theorem State.setDry_mixcur (s : State) (c i : Nat) (v : Word) :
    (s.setDry c i v).mixcur = s.mixcur := rfl
@[simp] theorem State.setDry_z (s : State) (c i : Nat) (v : Word) :
    (s.setDry c i v).z = s.z := rfl
@[simp] theorem State.setDry_buf (s : State) (c i : Nat) (v : Word) :
    (s.setDry c i v).buf = s.buf := rfl
@[simp] theorem State.setDry_dry (s : State) (c i : Nat) (v : Word) :
    (s.setDry c i v).dry = s.dry.write (sampleKey c i) v := rfl
@[simp] theorem State.setDry_inp (s : State) (c i : Nat) (v : Word) :
    (s.setDry c i v).inp = s.inp := rfl
@[simp] theorem State.setDry_resps (s : State) (c i : Nat) (v : Word) :
    (s.setDry c i v).resps = s.resps := rfl
@[simp] theorem State.setDry_freeIx (s : State) (c i : Nat) (v : Word) :
    (s.setDry c i v).freeIx = s.freeIx := rfl

/-! ## State.draw -/

@[simp] theorem State.draw_par (s : State) :
    (s.draw).par = s.par := rfl
@[simp] theorem State.draw_prepared (s : State) :
    (s.draw).prepared = s.prepared := rfl
@[simp] theorem State.draw_fs (s : State) :
    (s.draw).fs = s.fs := rfl
@[simp] theorem State.draw_nch (s : State) :
    (s.draw).nch = s.nch := rfl
@[simp] theorem State.draw_maxblk (s : State) :
    (s.draw).maxblk = s.maxblk := rfl
@[simp] theorem State.draw_dirty (s : State) :
    (s.draw).dirty = s.dirty := rfl
@[simp] theorem State.draw_fault (s : State) :
    (s.draw).fault = s.fault := rfl
@[simp] theorem State.draw_cause (s : State) :
    (s.draw).cause = s.cause := rfl
@[simp] theorem State.draw_finfo (s : State) :
    (s.draw).finfo = s.finfo := rfl
@[simp] theorem State.draw_coef (s : State) :
    (s.draw).coef = s.coef := rfl
@[simp] theorem State.draw_act (s : State) :
    (s.draw).act = s.act := rfl
@[simp] theorem State.draw_preg (s : State) :
    (s.draw).preg = s.preg := rfl
@[simp] theorem State.draw_biasr (s : State) :
    (s.draw).biasr = s.biasr := rfl
@[simp] theorem State.draw_amtr (s : State) :
    (s.draw).amtr = s.amtr := rfl
@[simp] theorem State.draw_kindr (s : State) :
    (s.draw).kindr = s.kindr := rfl
@[simp] theorem State.draw_postg (s : State) :
    (s.draw).postg = s.postg := rfl
@[simp] theorem State.draw_mixt (s : State) :
    (s.draw).mixt = s.mixt := rfl
@[simp] theorem State.draw_mixcur (s : State) :
    (s.draw).mixcur = s.mixcur := rfl
@[simp] theorem State.draw_z (s : State) :
    (s.draw).z = s.z := rfl
@[simp] theorem State.draw_buf (s : State) :
    (s.draw).buf = s.buf := rfl
@[simp] theorem State.draw_dry (s : State) :
    (s.draw).dry = s.dry := rfl
@[simp] theorem State.draw_inp (s : State) :
    (s.draw).inp = s.inp := rfl
@[simp] theorem State.draw_resps (s : State) :
    (s.draw).resps = s.resps := rfl
@[simp] theorem State.draw_freeIx (s : State) :
    (s.draw).freeIx = s.freeIx + 1 := rfl

/-! ## State.respond -/

@[simp] theorem State.respond_par (s : State) (r : Response) :
    (s.respond r).par = s.par := rfl
@[simp] theorem State.respond_prepared (s : State) (r : Response) :
    (s.respond r).prepared = s.prepared := rfl
@[simp] theorem State.respond_fs (s : State) (r : Response) :
    (s.respond r).fs = s.fs := rfl
@[simp] theorem State.respond_nch (s : State) (r : Response) :
    (s.respond r).nch = s.nch := rfl
@[simp] theorem State.respond_maxblk (s : State) (r : Response) :
    (s.respond r).maxblk = s.maxblk := rfl
@[simp] theorem State.respond_dirty (s : State) (r : Response) :
    (s.respond r).dirty = s.dirty := rfl
@[simp] theorem State.respond_fault (s : State) (r : Response) :
    (s.respond r).fault = s.fault := rfl
@[simp] theorem State.respond_cause (s : State) (r : Response) :
    (s.respond r).cause = s.cause := rfl
@[simp] theorem State.respond_finfo (s : State) (r : Response) :
    (s.respond r).finfo = s.finfo := rfl
@[simp] theorem State.respond_coef (s : State) (r : Response) :
    (s.respond r).coef = s.coef := rfl
@[simp] theorem State.respond_act (s : State) (r : Response) :
    (s.respond r).act = s.act := rfl
@[simp] theorem State.respond_preg (s : State) (r : Response) :
    (s.respond r).preg = s.preg := rfl
@[simp] theorem State.respond_biasr (s : State) (r : Response) :
    (s.respond r).biasr = s.biasr := rfl
@[simp] theorem State.respond_amtr (s : State) (r : Response) :
    (s.respond r).amtr = s.amtr := rfl
@[simp] theorem State.respond_kindr (s : State) (r : Response) :
    (s.respond r).kindr = s.kindr := rfl
@[simp] theorem State.respond_postg (s : State) (r : Response) :
    (s.respond r).postg = s.postg := rfl
@[simp] theorem State.respond_mixt (s : State) (r : Response) :
    (s.respond r).mixt = s.mixt := rfl
@[simp] theorem State.respond_mixcur (s : State) (r : Response) :
    (s.respond r).mixcur = s.mixcur := rfl
@[simp] theorem State.respond_z (s : State) (r : Response) :
    (s.respond r).z = s.z := rfl
@[simp] theorem State.respond_buf (s : State) (r : Response) :
    (s.respond r).buf = s.buf := rfl
@[simp] theorem State.respond_dry (s : State) (r : Response) :
    (s.respond r).dry = s.dry := rfl
@[simp] theorem State.respond_inp (s : State) (r : Response) :
    (s.respond r).inp = s.inp := rfl
@[simp] theorem State.respond_resps (s : State) (r : Response) :
    (s.respond r).resps = s.resps ++ [r] := rfl
@[simp] theorem State.respond_freeIx (s : State) (r : Response) :
    (s.respond r).freeIx = s.freeIx := rfl

/-! ## State.raise -/

@[simp] theorem State.raise_par (s : State) (c : Cause) (w : CmdWord) :
    (s.raise c w).par = s.par := rfl
@[simp] theorem State.raise_prepared (s : State) (c : Cause) (w : CmdWord) :
    (s.raise c w).prepared = s.prepared := rfl
@[simp] theorem State.raise_fs (s : State) (c : Cause) (w : CmdWord) :
    (s.raise c w).fs = s.fs := rfl
@[simp] theorem State.raise_nch (s : State) (c : Cause) (w : CmdWord) :
    (s.raise c w).nch = s.nch := rfl
@[simp] theorem State.raise_maxblk (s : State) (c : Cause) (w : CmdWord) :
    (s.raise c w).maxblk = s.maxblk := rfl
@[simp] theorem State.raise_dirty (s : State) (c : Cause) (w : CmdWord) :
    (s.raise c w).dirty = s.dirty := rfl
@[simp] theorem State.raise_fault (s : State) (c : Cause) (w : CmdWord) :
    (s.raise c w).fault = true := rfl
@[simp] theorem State.raise_cause (s : State) (c : Cause) (w : CmdWord) :
    (s.raise c w).cause = c.code := rfl
@[simp] theorem State.raise_finfo (s : State) (c : Cause) (w : CmdWord) :
    (s.raise c w).finfo = w := rfl
@[simp] theorem State.raise_coef (s : State) (c : Cause) (w : CmdWord) :
    (s.raise c w).coef = s.coef := rfl
@[simp] theorem State.raise_act (s : State) (c : Cause) (w : CmdWord) :
    (s.raise c w).act = s.act := rfl
@[simp] theorem State.raise_preg (s : State) (c : Cause) (w : CmdWord) :
    (s.raise c w).preg = s.preg := rfl
@[simp] theorem State.raise_biasr (s : State) (c : Cause) (w : CmdWord) :
    (s.raise c w).biasr = s.biasr := rfl
@[simp] theorem State.raise_amtr (s : State) (c : Cause) (w : CmdWord) :
    (s.raise c w).amtr = s.amtr := rfl
@[simp] theorem State.raise_kindr (s : State) (c : Cause) (w : CmdWord) :
    (s.raise c w).kindr = s.kindr := rfl
@[simp] theorem State.raise_postg (s : State) (c : Cause) (w : CmdWord) :
    (s.raise c w).postg = s.postg := rfl
@[simp] theorem State.raise_mixt (s : State) (c : Cause) (w : CmdWord) :
    (s.raise c w).mixt = s.mixt := rfl
@[simp] theorem State.raise_mixcur (s : State) (c : Cause) (w : CmdWord) :
    (s.raise c w).mixcur = s.mixcur := rfl
@[simp] theorem State.raise_z (s : State) (c : Cause) (w : CmdWord) :
    (s.raise c w).z = s.z := rfl
@[simp] theorem State.raise_buf (s : State) (c : Cause) (w : CmdWord) :
    (s.raise c w).buf = s.buf := rfl
@[simp] theorem State.raise_dry (s : State) (c : Cause) (w : CmdWord) :
    (s.raise c w).dry = s.dry := rfl
@[simp] theorem State.raise_inp (s : State) (c : Cause) (w : CmdWord) :
    (s.raise c w).inp = s.inp := rfl
@[simp] theorem State.raise_resps (s : State) (c : Cause) (w : CmdWord) :
    (s.raise c w).resps = s.resps ++ [Response.error] := rfl
@[simp] theorem State.raise_freeIx (s : State) (c : Cause) (w : CmdWord) :
    (s.raise c w).freeIx = s.freeIx := rfl

/-! ## State.refuse -/

@[simp] theorem State.refuse_par (s : State) :
    (s.refuse).par = s.par := rfl
@[simp] theorem State.refuse_prepared (s : State) :
    (s.refuse).prepared = s.prepared := rfl
@[simp] theorem State.refuse_fs (s : State) :
    (s.refuse).fs = s.fs := rfl
@[simp] theorem State.refuse_nch (s : State) :
    (s.refuse).nch = s.nch := rfl
@[simp] theorem State.refuse_maxblk (s : State) :
    (s.refuse).maxblk = s.maxblk := rfl
@[simp] theorem State.refuse_dirty (s : State) :
    (s.refuse).dirty = s.dirty := rfl
@[simp] theorem State.refuse_fault (s : State) :
    (s.refuse).fault = s.fault := rfl
@[simp] theorem State.refuse_cause (s : State) :
    (s.refuse).cause = s.cause := rfl
@[simp] theorem State.refuse_finfo (s : State) :
    (s.refuse).finfo = s.finfo := rfl
@[simp] theorem State.refuse_coef (s : State) :
    (s.refuse).coef = s.coef := rfl
@[simp] theorem State.refuse_act (s : State) :
    (s.refuse).act = s.act := rfl
@[simp] theorem State.refuse_preg (s : State) :
    (s.refuse).preg = s.preg := rfl
@[simp] theorem State.refuse_biasr (s : State) :
    (s.refuse).biasr = s.biasr := rfl
@[simp] theorem State.refuse_amtr (s : State) :
    (s.refuse).amtr = s.amtr := rfl
@[simp] theorem State.refuse_kindr (s : State) :
    (s.refuse).kindr = s.kindr := rfl
@[simp] theorem State.refuse_postg (s : State) :
    (s.refuse).postg = s.postg := rfl
@[simp] theorem State.refuse_mixt (s : State) :
    (s.refuse).mixt = s.mixt := rfl
@[simp] theorem State.refuse_mixcur (s : State) :
    (s.refuse).mixcur = s.mixcur := rfl
@[simp] theorem State.refuse_z (s : State) :
    (s.refuse).z = s.z := rfl
@[simp] theorem State.refuse_buf (s : State) :
    (s.refuse).buf = s.buf := rfl
@[simp] theorem State.refuse_dry (s : State) :
    (s.refuse).dry = s.dry := rfl
@[simp] theorem State.refuse_inp (s : State) :
    (s.refuse).inp = s.inp := rfl
@[simp] theorem State.refuse_resps (s : State) :
    (s.refuse).resps = s.resps ++ [Response.error] := rfl
@[simp] theorem State.refuse_freeIx (s : State) :
    (s.refuse).freeIx = s.freeIx := rfl

/-! ## State.withInp -/

@[simp] theorem State.withInp_par (s : State) (l : List HostInput) :
    (s.withInp l).par = s.par := rfl
@[simp] theorem State.withInp_prepared (s : State) (l : List HostInput) :
    (s.withInp l).prepared = s.prepared := rfl
@[simp] theorem State.withInp_fs (s : State) (l : List HostInput) :
    (s.withInp l).fs = s.fs := rfl
@[simp] theorem State.withInp_nch (s : State) (l : List HostInput) :
    (s.withInp l).nch = s.nch := rfl
@[simp] theorem State.withInp_maxblk (s : State) (l : List HostInput) :
    (s.withInp l).maxblk = s.maxblk := rfl
@[simp] theorem State.withInp_dirty (s : State) (l : List HostInput) :
    (s.withInp l).dirty = s.dirty := rfl
@[simp] theorem State.withInp_fault (s : State) (l : List HostInput) :
    (s.withInp l).fault = s.fault := rfl
@[simp] theorem State.withInp_cause (s : State) (l : List HostInput) :
    (s.withInp l).cause = s.cause := rfl
@[simp] theorem State.withInp_finfo (s : State) (l : List HostInput) :
    (s.withInp l).finfo = s.finfo := rfl
@[simp] theorem State.withInp_coef (s : State) (l : List HostInput) :
    (s.withInp l).coef = s.coef := rfl
@[simp] theorem State.withInp_act (s : State) (l : List HostInput) :
    (s.withInp l).act = s.act := rfl
@[simp] theorem State.withInp_preg (s : State) (l : List HostInput) :
    (s.withInp l).preg = s.preg := rfl
@[simp] theorem State.withInp_biasr (s : State) (l : List HostInput) :
    (s.withInp l).biasr = s.biasr := rfl
@[simp] theorem State.withInp_amtr (s : State) (l : List HostInput) :
    (s.withInp l).amtr = s.amtr := rfl
@[simp] theorem State.withInp_kindr (s : State) (l : List HostInput) :
    (s.withInp l).kindr = s.kindr := rfl
@[simp] theorem State.withInp_postg (s : State) (l : List HostInput) :
    (s.withInp l).postg = s.postg := rfl
@[simp] theorem State.withInp_mixt (s : State) (l : List HostInput) :
    (s.withInp l).mixt = s.mixt := rfl
@[simp] theorem State.withInp_mixcur (s : State) (l : List HostInput) :
    (s.withInp l).mixcur = s.mixcur := rfl
@[simp] theorem State.withInp_z (s : State) (l : List HostInput) :
    (s.withInp l).z = s.z := rfl
@[simp] theorem State.withInp_buf (s : State) (l : List HostInput) :
    (s.withInp l).buf = s.buf := rfl
@[simp] theorem State.withInp_dry (s : State) (l : List HostInput) :
    (s.withInp l).dry = s.dry := rfl
@[simp] theorem State.withInp_inp (s : State) (l : List HostInput) :
    (s.withInp l).inp = l := rfl
@[simp] theorem State.withInp_resps (s : State) (l : List HostInput) :
    (s.withInp l).resps = s.resps := rfl
@[simp] theorem State.withInp_freeIx (s : State) (l : List HostInput) :
    (s.withInp l).freeIx = s.freeIx := rfl

/-! ## openSession -/

@[simp] theorem openSession_par (nch maxblk : Nat) (f : Word) (s : State) :
    (openSession nch maxblk f s).par = s.par := rfl
@[simp] theorem openSession_prepared (nch maxblk : Nat) (f : Word) (s : State) :
    (openSession nch maxblk f s).prepared = true := rfl
@[simp] theorem openSession_fs (nch maxblk : Nat) (f : Word) (s : State) :
    (openSession nch maxblk f s).fs = f := rfl
@[simp] theorem openSession_nch (nch maxblk : Nat) (f : Word) (s : State) :
    (openSession nch maxblk f s).nch = BitVec.ofNat 2 nch := rfl
@[simp] theorem openSession_maxblk (nch maxblk : Nat) (f : Word) (s : State) :
    (openSession nch maxblk f s).maxblk = BitVec.ofNat 16 maxblk := rfl
@[simp] theorem openSession_dirty (nch maxblk : Nat) (f : Word) (s : State) :
    (openSession nch maxblk f s).dirty = s.dirty := rfl
@[simp] theorem openSession_fault (nch maxblk : Nat) (f : Word) (s : State) :
    (openSession nch maxblk f s).fault = s.fault := rfl
@[simp] theorem openSession_cause (nch maxblk : Nat) (f : Word) (s : State) :
    (openSession nch maxblk f s).cause = s.cause := rfl
@[simp] theorem openSession_finfo (nch maxblk : Nat) (f : Word) (s : State) :
    (openSession nch maxblk f s).finfo = s.finfo := rfl
@[simp] theorem openSession_coef (nch maxblk : Nat) (f : Word) (s : State) :
    (openSession nch maxblk f s).coef = s.coef := rfl
@[simp] theorem openSession_act (nch maxblk : Nat) (f : Word) (s : State) :
    (openSession nch maxblk f s).act = s.act := rfl
@[simp] theorem openSession_preg (nch maxblk : Nat) (f : Word) (s : State) :
    (openSession nch maxblk f s).preg = s.preg := rfl
@[simp] theorem openSession_biasr (nch maxblk : Nat) (f : Word) (s : State) :
    (openSession nch maxblk f s).biasr = s.biasr := rfl
@[simp] theorem openSession_amtr (nch maxblk : Nat) (f : Word) (s : State) :
    (openSession nch maxblk f s).amtr = s.amtr := rfl
@[simp] theorem openSession_kindr (nch maxblk : Nat) (f : Word) (s : State) :
    (openSession nch maxblk f s).kindr = s.kindr := rfl
@[simp] theorem openSession_postg (nch maxblk : Nat) (f : Word) (s : State) :
    (openSession nch maxblk f s).postg = s.postg := rfl
@[simp] theorem openSession_mixt (nch maxblk : Nat) (f : Word) (s : State) :
    (openSession nch maxblk f s).mixt = s.mixt := rfl
@[simp] theorem openSession_mixcur (nch maxblk : Nat) (f : Word) (s : State) :
    (openSession nch maxblk f s).mixcur = s.mixcur := rfl
@[simp] theorem openSession_z (nch maxblk : Nat) (f : Word) (s : State) :
    (openSession nch maxblk f s).z = zCleared := rfl
@[simp] theorem openSession_buf (nch maxblk : Nat) (f : Word) (s : State) :
    (openSession nch maxblk f s).buf = [] := rfl
@[simp] theorem openSession_dry (nch maxblk : Nat) (f : Word) (s : State) :
    (openSession nch maxblk f s).dry = s.dry := rfl
@[simp] theorem openSession_inp (nch maxblk : Nat) (f : Word) (s : State) :
    (openSession nch maxblk f s).inp = s.inp := rfl
@[simp] theorem openSession_resps (nch maxblk : Nat) (f : Word) (s : State) :
    (openSession nch maxblk f s).resps = s.resps := rfl
@[simp] theorem openSession_freeIx (nch maxblk : Nat) (f : Word) (s : State) :
    (openSession nch maxblk f s).freeIx = s.freeIx := rfl

/-! ## settleMix -/

@[simp] theorem settleMix_par (s : State) :
    (settleMix s).par = s.par := rfl
@[simp] theorem settleMix_prepared (s : State) :
    (settleMix s).prepared = s.prepared := rfl
@[simp] theorem settleMix_fs (s : State) :
    (settleMix s).fs = s.fs := rfl
@[simp] theorem settleMix_nch (s : State) :
    (settleMix s).nch = s.nch := rfl
@[simp] theorem settleMix_maxblk (s : State) :
    (settleMix s).maxblk = s.maxblk := rfl
@[simp] theorem settleMix_dirty (s : State) :
    (settleMix s).dirty = s.dirty := rfl
@[simp] theorem settleMix_fault (s : State) :
    (settleMix s).fault = s.fault := rfl
@[simp] theorem settleMix_cause (s : State) :
    (settleMix s).cause = s.cause := rfl
@[simp] theorem settleMix_finfo (s : State) :
    (settleMix s).finfo = s.finfo := rfl
@[simp] theorem settleMix_coef (s : State) :
    (settleMix s).coef = s.coef := rfl
@[simp] theorem settleMix_act (s : State) :
    (settleMix s).act = s.act := rfl
@[simp] theorem settleMix_preg (s : State) :
    (settleMix s).preg = s.preg := rfl
@[simp] theorem settleMix_biasr (s : State) :
    (settleMix s).biasr = s.biasr := rfl
@[simp] theorem settleMix_amtr (s : State) :
    (settleMix s).amtr = s.amtr := rfl
@[simp] theorem settleMix_kindr (s : State) :
    (settleMix s).kindr = s.kindr := rfl
@[simp] theorem settleMix_postg (s : State) :
    (settleMix s).postg = s.postg := rfl
@[simp] theorem settleMix_mixt (s : State) :
    (settleMix s).mixt = s.mixt := rfl
@[simp] theorem settleMix_mixcur (s : State) :
    (settleMix s).mixcur = s.mixt := rfl
@[simp] theorem settleMix_z (s : State) :
    (settleMix s).z = s.z := rfl
@[simp] theorem settleMix_buf (s : State) :
    (settleMix s).buf = s.buf := rfl
@[simp] theorem settleMix_dry (s : State) :
    (settleMix s).dry = s.dry := rfl
@[simp] theorem settleMix_inp (s : State) :
    (settleMix s).inp = s.inp := rfl
@[simp] theorem settleMix_resps (s : State) :
    (settleMix s).resps = s.resps := rfl
@[simp] theorem settleMix_freeIx (s : State) :
    (settleMix s).freeIx = s.freeIx := rfl

/-! ## bindScalars -/

@[simp] theorem bindScalars_par (P : Params) (snap : Snapshot) (s : State) :
    (bindScalars P snap s).par = s.par := rfl
@[simp] theorem bindScalars_prepared (P : Params) (snap : Snapshot) (s : State) :
    (bindScalars P snap s).prepared = s.prepared := rfl
@[simp] theorem bindScalars_fs (P : Params) (snap : Snapshot) (s : State) :
    (bindScalars P snap s).fs = s.fs := rfl
@[simp] theorem bindScalars_nch (P : Params) (snap : Snapshot) (s : State) :
    (bindScalars P snap s).nch = s.nch := rfl
@[simp] theorem bindScalars_maxblk (P : Params) (snap : Snapshot) (s : State) :
    (bindScalars P snap s).maxblk = s.maxblk := rfl
@[simp] theorem bindScalars_dirty (P : Params) (snap : Snapshot) (s : State) :
    (bindScalars P snap s).dirty = s.dirty := rfl
@[simp] theorem bindScalars_fault (P : Params) (snap : Snapshot) (s : State) :
    (bindScalars P snap s).fault = s.fault := rfl
@[simp] theorem bindScalars_cause (P : Params) (snap : Snapshot) (s : State) :
    (bindScalars P snap s).cause = s.cause := rfl
@[simp] theorem bindScalars_finfo (P : Params) (snap : Snapshot) (s : State) :
    (bindScalars P snap s).finfo = s.finfo := rfl
@[simp] theorem bindScalars_coef (P : Params) (snap : Snapshot) (s : State) :
    (bindScalars P snap s).coef = s.coef := rfl
@[simp] theorem bindScalars_act (P : Params) (snap : Snapshot) (s : State) :
    (bindScalars P snap s).act = s.act := rfl
@[simp] theorem bindScalars_preg (P : Params) (snap : Snapshot) (s : State) :
    (bindScalars P snap s).preg = P.db2lin snap.pre := rfl
@[simp] theorem bindScalars_biasr (P : Params) (snap : Snapshot) (s : State) :
    (bindScalars P snap s).biasr = snap.bia := rfl
@[simp] theorem bindScalars_amtr (P : Params) (snap : Snapshot) (s : State) :
    (bindScalars P snap s).amtr = snap.amt := rfl
@[simp] theorem bindScalars_kindr (P : Params) (snap : Snapshot) (s : State) :
    (bindScalars P snap s).kindr = BitVec.ofNat 4 snap.knd := rfl
@[simp] theorem bindScalars_postg (P : Params) (snap : Snapshot) (s : State) :
    (bindScalars P snap s).postg = P.db2lin snap.pst := rfl
@[simp] theorem bindScalars_mixt (P : Params) (snap : Snapshot) (s : State) :
    (bindScalars P snap s).mixt = snap.mix := rfl
@[simp] theorem bindScalars_mixcur (P : Params) (snap : Snapshot) (s : State) :
    (bindScalars P snap s).mixcur = s.mixcur := rfl
@[simp] theorem bindScalars_z (P : Params) (snap : Snapshot) (s : State) :
    (bindScalars P snap s).z = s.z := rfl
@[simp] theorem bindScalars_buf (P : Params) (snap : Snapshot) (s : State) :
    (bindScalars P snap s).buf = s.buf := rfl
@[simp] theorem bindScalars_dry (P : Params) (snap : Snapshot) (s : State) :
    (bindScalars P snap s).dry = s.dry := rfl
@[simp] theorem bindScalars_inp (P : Params) (snap : Snapshot) (s : State) :
    (bindScalars P snap s).inp = s.inp := rfl
@[simp] theorem bindScalars_resps (P : Params) (snap : Snapshot) (s : State) :
    (bindScalars P snap s).resps = s.resps := rfl
@[simp] theorem bindScalars_freeIx (P : Params) (snap : Snapshot) (s : State) :
    (bindScalars P snap s).freeIx = s.freeIx := rfl

/-! ## State.resetBlock -/

@[simp] theorem State.resetBlock_par (P : Params) (s : State) :
    (s.resetBlock P).par = P.defaults := rfl
@[simp] theorem State.resetBlock_prepared (P : Params) (s : State) :
    (s.resetBlock P).prepared = State.reset.prepared := rfl
@[simp] theorem State.resetBlock_fs (P : Params) (s : State) :
    (s.resetBlock P).fs = State.reset.fs := rfl
@[simp] theorem State.resetBlock_nch (P : Params) (s : State) :
    (s.resetBlock P).nch = State.reset.nch := rfl
@[simp] theorem State.resetBlock_maxblk (P : Params) (s : State) :
    (s.resetBlock P).maxblk = State.reset.maxblk := rfl
@[simp] theorem State.resetBlock_dirty (P : Params) (s : State) :
    (s.resetBlock P).dirty = State.reset.dirty := rfl
@[simp] theorem State.resetBlock_fault (P : Params) (s : State) :
    (s.resetBlock P).fault = State.reset.fault := rfl
@[simp] theorem State.resetBlock_cause (P : Params) (s : State) :
    (s.resetBlock P).cause = State.reset.cause := rfl
@[simp] theorem State.resetBlock_finfo (P : Params) (s : State) :
    (s.resetBlock P).finfo = State.reset.finfo := rfl
@[simp] theorem State.resetBlock_coef (P : Params) (s : State) :
    (s.resetBlock P).coef = State.reset.coef := rfl
@[simp] theorem State.resetBlock_act (P : Params) (s : State) :
    (s.resetBlock P).act = State.reset.act := rfl
@[simp] theorem State.resetBlock_preg (P : Params) (s : State) :
    (s.resetBlock P).preg = State.reset.preg := rfl
@[simp] theorem State.resetBlock_biasr (P : Params) (s : State) :
    (s.resetBlock P).biasr = State.reset.biasr := rfl
@[simp] theorem State.resetBlock_amtr (P : Params) (s : State) :
    (s.resetBlock P).amtr = State.reset.amtr := rfl
@[simp] theorem State.resetBlock_kindr (P : Params) (s : State) :
    (s.resetBlock P).kindr = State.reset.kindr := rfl
@[simp] theorem State.resetBlock_postg (P : Params) (s : State) :
    (s.resetBlock P).postg = State.reset.postg := rfl
@[simp] theorem State.resetBlock_mixt (P : Params) (s : State) :
    (s.resetBlock P).mixt = State.reset.mixt := rfl
@[simp] theorem State.resetBlock_mixcur (P : Params) (s : State) :
    (s.resetBlock P).mixcur = State.reset.mixcur := rfl
@[simp] theorem State.resetBlock_z (P : Params) (s : State) :
    (s.resetBlock P).z = State.reset.z := rfl
@[simp] theorem State.resetBlock_buf (P : Params) (s : State) :
    (s.resetBlock P).buf = Mem.ofWords P (Config.bufAfterReset s.freeIx) := rfl
@[simp] theorem State.resetBlock_dry (P : Params) (s : State) :
    (s.resetBlock P).dry = Mem.ofWords P (Config.dryAfterReset s.freeIx) := rfl
@[simp] theorem State.resetBlock_inp (P : Params) (s : State) :
    (s.resetBlock P).inp = s.inp := rfl
@[simp] theorem State.resetBlock_resps (P : Params) (s : State) :
    (s.resetBlock P).resps = s.resps := rfl
@[simp] theorem State.resetBlock_freeIx (P : Params) (s : State) :
    (s.resetBlock P).freeIx = s.freeIx + 1 := rfl

/-! ## Reset values -/

@[simp] theorem State.reset_par : State.reset.par = Config.defaults := rfl
@[simp] theorem State.reset_prepared : State.reset.prepared = false := rfl
@[simp] theorem State.reset_fs : State.reset.fs = Config.zero := rfl
@[simp] theorem State.reset_nch : State.reset.nch = 0 := rfl
@[simp] theorem State.reset_maxblk : State.reset.maxblk = 0 := rfl
@[simp] theorem State.reset_dirty : State.reset.dirty = true := rfl
@[simp] theorem State.reset_fault : State.reset.fault = false := rfl
@[simp] theorem State.reset_cause : State.reset.cause = 0 := rfl
@[simp] theorem State.reset_finfo : State.reset.finfo = 0 := rfl
@[simp] theorem State.reset_coef : State.reset.coef = Vector.replicate 9 Coefs.identity := rfl
@[simp] theorem State.reset_act : State.reset.act = actReset := rfl
@[simp] theorem State.reset_preg : State.reset.preg = Config.one := rfl
@[simp] theorem State.reset_biasr : State.reset.biasr = Config.zero := rfl
@[simp] theorem State.reset_amtr : State.reset.amtr = Config.zero := rfl
@[simp] theorem State.reset_kindr : State.reset.kindr = 0 := rfl
@[simp] theorem State.reset_postg : State.reset.postg = Config.one := rfl
@[simp] theorem State.reset_mixt : State.reset.mixt = Config.one := rfl
@[simp] theorem State.reset_mixcur : State.reset.mixcur = Config.one := rfl
@[simp] theorem State.reset_z : State.reset.z = zCleared := rfl
@[simp] theorem State.reset_buf : State.reset.buf = [] := rfl
@[simp] theorem State.reset_dry : State.reset.dry = [] := rfl
@[simp] theorem State.reset_inp : State.reset.inp = [] := rfl
@[simp] theorem State.reset_resps : State.reset.resps = [] := rfl
@[simp] theorem State.reset_freeIx : State.reset.freeIx = 0 := rfl

end Sys2Proof.Machine
end

