-- ==== Sys2Proof/Laws/Operations.lean ====
section
/-! SUPPORT. What each shared operation can do, said once: the order of checking, and what the
updater and the block loop leave unchanged. -/

namespace Sys2Proof.Machine

/-! ## The order of checking -/

/-- A command is refused, or faults with the first failed check, or takes effect and answers. -/
theorem runCommand_cases (i : Instr) (checks : List (Bool × Cause)) (done : State) (data : Word)
    (s : State) :
    (s.fault = true ∧ runCommand i checks done data s = s.refuse) ∨
      (∃ c, s.fault = false ∧ firstFault checks = some c ∧
        runCommand i checks done data s = s.raise c (encode i)) ∨
      (s.fault = false ∧ firstFault checks = none ∧
        runCommand i checks done data s = done.respond (.ok data)) := by
  unfold runCommand
  cases hf : s.fault with
  | true => exact .inl ⟨rfl, by simp⟩
  | false =>
    cases hc : firstFault checks with
    | some c => exact .inr (.inl ⟨c, rfl, rfl, by simp⟩)
    | none => exact .inr (.inr ⟨rfl, rfl, by simp⟩)

theorem runCommand_faulted (i : Instr) (checks : List (Bool × Cause)) (done : State) (data : Word)
    (s : State) (h : s.fault = true) : runCommand i checks done data s = s.refuse := by
  simp [runCommand, h]

theorem runCommand_raises (i : Instr) (checks : List (Bool × Cause)) (done : State) (data : Word)
    (s : State) (c : Cause) (h : s.fault = false) (hc : firstFault checks = some c) :
    runCommand i checks done data s = s.raise c (encode i) := by
  simp [runCommand, h, hc]

theorem runCommand_completes (i : Instr) (checks : List (Bool × Cause)) (done : State) (data : Word)
    (s : State) (h : s.fault = false) (hc : firstFault checks = none) :
    runCommand i checks done data s = done.respond (.ok data) := by
  simp [runCommand, h, hc]

@[simp] theorem firstFault_nil : firstFault [] = none := rfl

@[simp] theorem firstFault_holds (c : Cause) (l : List (Bool × Cause)) :
    firstFault ((true, c) :: l) = firstFault l := rfl

@[simp] theorem firstFault_fails (c : Cause) (l : List (Bool × Cause)) :
    firstFault ((false, c) :: l) = some c := rfl

/-! ## Folds -/

/-- What holds at the start and is kept by every step holds after the fold. -/
theorem foldl_keeps {α β : Type} (p : β → Prop) (f : β → α → β) (l : List α) (b : β) (hb : p b)
    (h : ∀ b a, p b → p (f b a)) : p (l.foldl f b) := by
  induction l generalizing b with
  | nil => exact hb
  | cons a l ih => exact ih _ (h b a hb)

/-- The same for steps on the elements of the list only. -/
theorem foldl_keeps_mem {α β : Type} (p : β → Prop) (f : β → α → β) (l : List α) (b : β) (hb : p b)
    (h : ∀ b, ∀ a ∈ l, p b → p (f b a)) : p (l.foldl f b) := by
  induction l generalizing b with
  | nil => exact hb
  | cons a l ih => exact ih _ (h b a (by simp) hb) fun b a' ha' => h b a' (by simp [ha'])

/-! ## The updater changes the binding alone -/

theorem bindActive_frame (base n : Nat) (s : State) :
    bindActive base n s = { s with act := (bindActive base n s).act } := by
  refine foldl_keeps (fun t : State => t = { s with act := t.act }) _ _ _ rfl ?_
  intro t j ht
  rw [ht]
  rfl

theorem bindSections_frame (P : Params) (k : Site) (base n : Nat) (t : CutType) (g : Word) (s : State) :
    bindSections P k base n t g s = { s with coef := (bindSections P k base n t g s).coef } := by
  refine foldl_keeps (fun u : State => u = { s with coef := u.coef }) _ _ _ rfl ?_
  intro u j hu
  rw [hu]
  rfl

theorem bindCut_frame (P : Params) (k : Site) (base : Nat) (fc : Word) (q : Nat) (t : CutType) (s : State) :
    bindCut P k base fc q t s =
      { s with coef := (bindCut P k base fc q t s).coef, act := (bindCut P k base fc q t s).act } := by
  unfold bindCut
  rw [bindSections_frame, bindActive_frame]

theorem bindPeak_frame (P : Params) (k : Site) (fc gdb q : Word) (s : State) :
    bindPeak P k fc gdb q s = { s with coef := (bindPeak P k fc gdb q s).coef } := rfl

theorem withBinding_self (s : State) : s.withBinding s = s := rfl

/-- `UpdateProc` writes the coefficients, the activity bits and the bound scalars, and nothing else
(45_coefficient_update.md R190). -/
theorem updateProc_frame (P : Params) (k : Site) (s : State) :
    updateProc P k s = s.withBinding (updateProc P k s) := by
  have h : ∀ u : State, (∃ c a, u = { s with coef := c, act := a }) →
      bindScalars P (snapshot P s) u = s.withBinding (bindScalars P (snapshot P s) u) := by
    rintro u ⟨c, a, rfl⟩
    rfl
  unfold updateProc
  apply h
  rw [bindPeak_frame, bindCut_frame, bindCut_frame]
  exact ⟨_, _, rfl⟩

/-! ## The block loop changes the sample path alone -/

/-- The state with what the block loop writes taken from another. -/
def State.withPath (s t : State) : State := { s with z := t.z, buf := t.buf, dry := t.dry }

theorem copyDry_frame (c n : Nat) (s : State) : copyDry c n s = { s with dry := (copyDry c n s).dry } := by
  refine foldl_keeps (fun t : State => t = { s with dry := t.dry }) _ _ _ rfl ?_
  intro t i ht
  rw [ht]
  rfl

theorem sampleStep_frame (P : Params) (k : Site) (c n : Nat) (m0 : Word) (s : State) (i : Nat) :
    sampleStep P k c n m0 s i =
      { s with z := (sampleStep P k c n m0 s i).z, buf := (sampleStep P k c n m0 s i).buf } := rfl

theorem processChannel_frame (P : Params) (k : Site) (n : Nat) (m0 : Word) (s : State) (c : Nat) :
    processChannel P k n m0 s c = s.withPath (processChannel P k n m0 s c) := by
  refine foldl_keeps (fun t => t = s.withPath t) _ _ _ ?_ ?_
  · rw [copyDry_frame]
    rfl
  · intro t i ht
    rw [sampleStep_frame]
    generalize (sampleStep P k c n m0 t i).z = z
    generalize (sampleStep P k c n m0 t i).buf = b
    rw [ht]
    rfl

/-- The block loop writes `Z`, `BUF`, `DRY` and `MIXCUR`, and nothing else
(43_signal_chain.md R141). -/
theorem processBlock_frame (P : Params) (k : Site) (n : Nat) (s : State) :
    processBlock P k n s =
      { s with
        z := (processBlock P k n s).z
        buf := (processBlock P k n s).buf
        dry := (processBlock P k n s).dry
        mixcur := if n = 0 then s.mixcur else s.mixt } := by
  unfold processBlock
  split
  · rfl
  · have h : ∀ l : List Nat, l.foldl (processChannel P k n s.mixcur) s =
        s.withPath (l.foldl (processChannel P k n s.mixcur) s) := fun l =>
      foldl_keeps (fun t => t = s.withPath t) _ l s rfl (by
        intro t c ht
        rw [processChannel_frame]
        generalize processChannel P k n s.mixcur t c = u
        rw [ht]
        rfl)
    rw [h]
    rfl

end Sys2Proof.Machine
end

