-- ==== Sys2Proof/Laws/Params.lean ====
section
/-! SUPPORT. The parameters of the reference instance, and that `exec` is the machine of any
instance at the reference one. -/

namespace Sys2Proof

@[simp] theorem Params.reference_npar : Params.reference.npar = 13 := rfl
@[simp] theorem Params.reference_nkind : Params.reference.nkind = 9 := rfl
@[simp] theorem Params.reference_nsec : Params.reference.nsec = 9 := rfl
@[simp] theorem Params.reference_nchMax : Params.reference.nchMax = 2 := rfl
@[simp] theorem Params.reference_bufcap : Params.reference.bufcap = 4096 := rfl
@[simp] theorem Params.reference_fs : Params.reference.fs = ⟨0x472C4400#32, 0x483B8000#32⟩ := rfl
@[simp] theorem Params.reference_freq : Params.reference.freq = ⟨0x41A00000#32, 0x469C4000#32⟩ := rfl
@[simp] theorem Params.reference_pkgain : Params.reference.pkgain = ⟨0xC2100000#32, 0x42100000#32⟩ := rfl
@[simp] theorem Params.reference_q : Params.reference.q = ⟨0x3DCCCCCD#32, 0x41200000#32⟩ := rfl
@[simp] theorem Params.reference_gain : Params.reference.gain = ⟨0xC2100000#32, 0x42100000#32⟩ := rfl
@[simp] theorem Params.reference_bias : Params.reference.bias = ⟨0xBF800000#32, 0x3F800000#32⟩ := rfl
@[simp] theorem Params.reference_amt : Params.reference.amt = ⟨0x00000000#32, 0x3F7D70A4#32⟩ := rfl
@[simp] theorem Params.reference_mix : Params.reference.mix = ⟨0x00000000#32, 0x3F800000#32⟩ := rfl
@[simp] theorem Params.reference_defaults : Params.reference.defaults = Config.defaults := rfl
@[simp] theorem Params.reference_makeup : Params.reference.makeup = Config.makeup := rfl
@[simp] theorem Params.reference_invq : Params.reference.invq = Config.invq := rfl
@[simp] theorem Params.reference_tan : Params.reference.tan = Machine.f_tan := rfl
@[simp] theorem Params.reference_sin : Params.reference.sin = Machine.f_sin := rfl
@[simp] theorem Params.reference_cos : Params.reference.cos = Machine.f_cos := rfl
@[simp] theorem Params.reference_db2lin : Params.reference.db2lin = Machine.f_db2lin := rfl
@[simp] theorem Params.reference_shape (n : Nat) (x a : Word) : Params.reference.shape n x a =
    Machine.shape Machine.f_sin Machine.f_cos [] (Machine.Kind.ofNumber n) x a := rfl

namespace Machine

/-- Executing a command is running it in the reference instance. -/
theorem exec_eq_run (i : Instr) (s : State) : exec i s = .next (run .reference i s) := by
  cases i <;> rfl

end Machine

end Sys2Proof
end

