-- ==== Sys2Proof/Laws/PerInstr.lean ====
section
/-! SUPPORT. Facts about every command, one lemma for each constructor. -/

/-- The field `OP` of a command's word is its opcode (30_encoding.md R73). -/
def Sys2Proof.Laws.OpcodeField.Statement (i : Sys2Proof.Instr) : Prop :=
  Sys2Proof.opField (Sys2Proof.encode i) = i.opcode.bits

namespace Sys2Proof.Laws

/-- Field `OP` of packed fields. -/
theorem opField_packCommand (op a : BitVec 8) (n : BitVec 16) (d : Word) :
    opField (packCommand op a n d) = op := by
  apply BitVec.eq_of_getLsbD_eq
  intro i hi
  simp only [opField, packCommand, BitVec.getLsbD_extractLsb', BitVec.getLsbD_append]
  have h1 : ¬ (56 + i < 32) := by omega
  have h2 : ¬ (56 + i - 32 < 16) := by omega
  have h3 : ¬ (56 + i - 32 - 16 < 8) := by omega
  have h4 : 56 + i - 32 - 16 - 8 = i := by omega
  simp [hi, h1, h2, h3, h4]

theorem OpcodeField.nop : OpcodeField.Statement .nop := opField_packCommand _ _ _ _
theorem OpcodeField.reset : OpcodeField.Statement .reset := opField_packCommand _ _ _ _
theorem OpcodeField.prepare (nch maxblk : Nat) (fs : Word) :
    OpcodeField.Statement (.prepare nch maxblk fs) := opField_packCommand _ _ _ _
theorem OpcodeField.update : OpcodeField.Statement .update := opField_packCommand _ _ _ _
theorem OpcodeField.setp (p : Nat) (v : Word) : OpcodeField.Statement (.setp p v) :=
  opField_packCommand _ _ _ _
theorem OpcodeField.getp (p : Nat) : OpcodeField.Statement (.getp p) := opField_packCommand _ _ _ _
theorem OpcodeField.tcdirty : OpcodeField.Statement .tcdirty := opField_packCommand _ _ _ _
theorem OpcodeField.rdcoef (s k : Nat) : OpcodeField.Statement (.rdcoef s k) :=
  opField_packCommand _ _ _ _
theorem OpcodeField.rdsr (r : Nat) : OpcodeField.Statement (.rdsr r) := opField_packCommand _ _ _ _
theorem OpcodeField.put (c i : Nat) (x : Word) : OpcodeField.Statement (.put c i x) :=
  opField_packCommand _ _ _ _
theorem OpcodeField.process (n : Nat) : OpcodeField.Statement (.process n) :=
  opField_packCommand _ _ _ _
theorem OpcodeField.get (c i : Nat) : OpcodeField.Statement (.get c i) := opField_packCommand _ _ _ _

end Sys2Proof.Laws
end

