-- ==== Sys2Proof/Tests/Slice0.lean ====
section
/-! SUPPORT. Small tests on values taken from the spec (the vectors V<n> of 95_test_vectors.md and the
examples of the rules), and for each statement with hypotheses a state and operands that meet them. -/

namespace Sys2Proof.Tests

open Sys2Proof Sys2Proof.Machine

/-! ## Well-formedness refuses an operand that does not fit its field -/

theorem test_wf_prepare_nch : (Instr.prepare 256 1 0).wf = false := by decide
theorem test_wf_prepare_maxblk : (Instr.prepare 1 65536 0).wf = false := by decide
theorem test_wf_setp : (Instr.setp 256 0).wf = false := by decide
theorem test_wf_getp : (Instr.getp 256).wf = false := by decide
theorem test_wf_rdcoef_section : (Instr.rdcoef 256 0).wf = false := by decide
theorem test_wf_rdcoef_index : (Instr.rdcoef 0 65536).wf = false := by decide
theorem test_wf_rdsr : (Instr.rdsr 256).wf = false := by decide
theorem test_wf_put_channel : (Instr.put 256 0 0).wf = false := by decide
theorem test_wf_put_index : (Instr.put 0 65536 0).wf = false := by decide
theorem test_wf_process : (Instr.process 65536).wf = false := by decide
theorem test_wf_get_channel : (Instr.get 256 0).wf = false := by decide
theorem test_wf_get_index : (Instr.get 0 65536).wf = false := by decide
theorem test_wf_accepts : (Instr.put 255 65535 0xFFFFFFFF).wf = true := by decide

/-! ## Decoding words written out from R73, R80, V1 to V6 -/

theorem test_decode_nop : decode 0x0000000000000000 = .ok .nop := rfl
theorem test_decode_reset : decode 0x0100000000000000 = .ok .reset := rfl
theorem test_decode_prepare : decode 0x02020200473B8000 = .ok (.prepare 2 512 0x473B8000) := rfl
theorem test_decode_update : decode 0x0300000000000000 = .ok .update := rfl
theorem test_decode_setp : decode 0x10090000FFFFFFFF = .ok (.setp 9 0xFFFFFFFF) := rfl
theorem test_decode_getp : decode 0x1105000000000000 = .ok (.getp 5) := rfl
theorem test_decode_tcdirty : decode 0x1200000000000000 = .ok .tcdirty := rfl
theorem test_decode_rdcoef : decode 0x1304000400000000 = .ok (.rdcoef 4 4) := rfl
theorem test_decode_rdsr : decode 0x1405000000000000 = .ok (.rdsr 5) := rfl
theorem test_decode_put : decode 0x20010005BF000000 = .ok (.put 1 5 0xBF000000) := rfl
theorem test_decode_process : decode 0x2100004000000000 = .ok (.process 64) := rfl
theorem test_decode_get : decode 0x2200003F00000000 = .ok (.get 0 63) := rfl

/-- V3: a reserved field that is not 0. -/
theorem test_decode_reserved :
    [0x0000000000000001, 0x0100010000000000, 0x1000000100000000, 0x110C000000000001,
      0x1201000000000000, 0x1300000000000001, 0x2101004000000000, 0x2200000000000001].map decode =
      List.replicate 8 (.error .reservedField) := rfl

/-- V4: undefined opcodes next to defined ones. -/
theorem test_decode_undefined :
    [0x0400000000000000, 0x0F00000000000000, 0x1500000000000000, 0x1F00000000000000,
      0x2300000000000000, 0x8000000000000000, 0xFFFFFFFFFFFFFFFF].map decode =
      List.replicate 7 (.error .undefinedOpcode) := rfl

theorem test_encode_setp : encode (.setp 0 0x447A0000) = 0x10000000447A0000 := by decide
theorem test_encode_put : encode (.put 1 5 0xBF000000) = 0x20010005BF000000 := by decide
theorem test_table_word : decodeTableWord 64 0x2100004000000000 = some (.process 64) := rfl

/-- R52: least significant byte first. -/
theorem test_transport : commandOfBytes [0x00, 0x00, 0x00, 0xBF, 0x05, 0x00, 0x01, 0x20] =
    some 0x20010005BF000000 := by decide

/-- V6: the pseudo-instructions. -/
theorem test_pseudo :
    (Assembler.setSlope .lc .db48).map encode = [0x1001000000000003] ∧
    (Assembler.setSlope .hc .db12).map encode = [0x1006000000000000] ∧
    (Assembler.setKind .rash).map encode = [0x100A000000000008] ∧
    (Assembler.run1 0 0x3F000000).map encode =
      [0x200000003F000000, 0x2100000100000000, 0x2200000000000000] := by decide

/-! ## Numerics: V10 to V17 -/

theorem test_fadd_tie_down : fadd [] 0x3F800000 0x33800000 = 0x3F800000 := by decide
theorem test_fadd_above_tie : fadd [] 0x3F800000 0x33800001 = 0x3F800001 := by decide
theorem test_fadd_tie_up : fadd [] 0x3F800001 0x33800000 = 0x3F800002 := by decide
theorem test_fdiv_third : fdiv [] 0x3F800000 0x40400000 = 0x3EAAAAAB := by decide
theorem test_fsqrt_two : fsqrt [] 0x40000000 = 0x3FB504F3 := by decide +kernel
theorem test_fmul_overflow : fmul [] 0x7F7FFFFF 0x40000000 = 0x7F800000 := by decide
theorem test_fdiv_by_inf : fdiv [] 0xBF800000 0x7F800000 = 0x80000000 := by decide
theorem test_fdiv_by_zero :
    fdiv [] 0x3F800000 0 = 0x7F800000 ∧ fdiv [] 0xBF800000 0 = 0xFF800000 := by decide
theorem test_fmul_nan : fmul [] 0 0x7F800000 = freeNaN [] := rfl
theorem test_fsub_inf_nan : fsub [] 0x7F800000 0x7F800000 = freeNaN [] := rfl
theorem test_zeros : fmul [] 0x80000000 0x40A00000 = 0x80000000 ∧ fadd [] 0x80000000 0 = 0 ∧
    fadd [] 0x80000000 0x80000000 = 0x80000000 ∧ fsub [] 0 0 = 0 := by decide
theorem test_subnormals : fsub [] 0x00800000 0x007FFFFF = 0x00000001 ∧
    fmul [] 0x00800000 0x3F000000 = 0x00400000 ∧ fmul [] 0x00000001 0x3F000000 = 0 ∧
    fmul [] 0x00000003 0x3F000000 = 0x00000002 := by decide
theorem test_frint : [0x40200000, 0x40600000, 0xC0200000, 0x3F000000, 0xBE99999A, 0x4119999A,
    0x7F800000].map frint =
    [0x40000000, 0x40800000, 0xC0000000, 0, 0x80000000, 0x41200000, 0x7F800000] := by decide
theorem test_u2f : u2f 3 = 0x40400000 ∧ u2f 4096 = 0x45800000 := by decide
theorem test_sat1 : [0x3FC00000, 0xBFC00000, 0x7F800000, 0xFF800000, 0x7FC00001, 0x3F400000,
    0x80000000, 0x00000001, 0x3F800000].map sat1 =
    [0x3F800000, 0xBF800000, 0x3F800000, 0xBF800000, 0, 0x3F400000, 0x80000000, 0x00000001,
      0x3F800000] := by decide
theorem test_clampF : clampF 0x40A00000 0x41A00000 0x469C4000 0x41A00000 = 0x41A00000 ∧
    clampF 0x7F800000 0x41A00000 0x469C4000 0x41A00000 = 0x469C4000 ∧
    clampF 0x7FC00000 0x41A00000 0x469C4000 0x469C4000 = 0x469C4000 ∧
    clampF 0x80000000 0 0x3F7D70A4 0 = 0x80000000 ∧
    clampF 0xFF800000 0xC2100000 0x42100000 0 = 0xC2100000 := by decide
theorem test_clampU_kindsel : clampU 7 3 = 3 ∧ kindsel .reference 8 = 8 ∧ kindsel .reference 9 = 0 := by decide

/-- The reference tangent, sine, cosine and decibel conversion of V18, before the instance's own
difference. -/
theorem test_reference_transcendentals :
    roundFix (fixTan (toFix 0x3D860A92)) = 0x3D863BA7 ∧
    roundFix (fixSin (toFix 0x3E060A92)) = 0x3E05A8A9 ∧
    roundFix (fixCos (toFix 0x3E060A92)) = 0x3F7DCF55 ∧
    roundFix (fixDb2lin (toFix 0xC2100000)) = 0x3C81D59F := by decide +kernel

/-- R105: next to the smallest operand the operand itself is within one unit of its sine, and the next
word above is not. -/
theorem test_sine_contract_at_smallest :
    near 0x00000001 (fixSin (toFix 0x00000001)) (ulpTol 0x00000001) = true ∧
    near 0x00000002 (fixSin (toFix 0x00000001)) (ulpTol 0x00000002) = false := by decide +kernel
/-- R105: near 3 pi / 2 the word just below -1 is within 2^-22 of the sine, and is taken to -1.0. -/
theorem test_sine_clamp_near_minus_one :
    near 0xBF800001 (fixSin (toFix 0x4096CBE4)) (2 ^ (fixBits - 22)) = true ∧
    clampF 0xBF800001 (sineLow 0x4096CBE4) Config.one Config.one = 0xBF800000 := by decide +kernel

/-! ## The chain: V30, V32, V33 -/

/-- Steps 0, 1 and 4 of the impulse response of V30. -/
theorem test_biquad :
    let c : Coefs := ⟨0x3F000000, 0x3E800000, 0x3E000000, 0xBF000000, 0x3E800000⟩
    biquad [] c ⟨0, 0⟩ 0x3F800000 = (0x3F000000, ⟨0x3F000000, 0⟩) ∧
    biquad [] c ⟨0x3F000000, 0⟩ 0 = (0x3F000000, ⟨0x3E800000, 0xBE000000⟩) ∧
    biquad [] c ⟨0xBD800000, 0⟩ 0 = (0xBD800000, ⟨0xBD000000, 0x3C800000⟩) := by decide

theorem test_mix : mix [] 0x3F000000 0xBF000000 0x3F400000 = 0xBE800000 ∧
    mix [] 0x3F000000 0x3E800000 0x3EAAAAAB = 0x3ED55555 ∧
    mix [] 0x80000000 0x80000000 0 = 0x80000000 := by decide

/-- The rows of V33 with n = 3 and the last row. -/
theorem test_ramp : (List.range 3).map (rampValue [] 0x3F800000 0 3) = [0x3F2AAAAA, 0x3EAAAAAA, 0] ∧
    rampValue [] 0x3F666666 0x3DCCCCCD 1 0 = 0x3DCCCCD0 := by decide

/-! ## The waveshaper: V50 to V52, the kinds without a transcendental function -/

theorem test_shape_hardclip : shape f_sin f_cos [] .hardclip 0x3F600000 0x3F000000 = 0x3F000000 ∧
    shape f_sin f_cos [] .hardclip 0x3F800000 0x3F7D70A4 = 0x3C23D700 := by decide
theorem test_shape_softclip : shape f_sin f_cos [] .softclip 0x3F600000 0x3F000000 = 0x3F745D17 ∧
    shape f_sin f_cos [] .softclip 0x3E800000 0x3F7D70A4 = 0x3F7C32B2 := by decide
theorem test_shape_gnome : shape f_sin f_cos [] .gnome 0x3F800000 0x3F7D70A4 = 0x3F7D7721 := by decide
theorem test_shape_warm : shape f_sin f_cos [] .warm 0xBF000000 0x3F000000 = 0xBECCCCCD ∧
    shape f_sin f_cos [] .warm 0x3F000000 0x3F000000 = 0x3F19999A := by decide
theorem test_shape_quantize : shape f_sin f_cos [] .quantize 0x3E99999A 0x3F000000 = 0x3EA00000 ∧
    shape f_sin f_cos [] .quantize 0x3F600000 0x3F7D70A4 = 0x3F800000 := by decide
/-- Log 21: where |x| + u rounds to |x|, `GNOME` reaches 1.0. -/
theorem test_shape_gnome_large : shape f_sin f_cos [] .gnome 0x4B800000 0 = 0x3F800000 := by decide
/-- R183 and log 21: -0.0 in, with amount +0.0 and with amount -0.0. -/
theorem test_shape_hollowing_zero : shape f_sin f_cos [] .hollowing 0x80000000 0 = 0 ∧
    shape f_sin f_cos [] .hollowing 0x80000000 0x80000000 = 0x80000000 := by decide
/-- The clean piece of `RASH` (R181). -/
theorem test_shape_rash : shape f_sin f_cos [] .rash 0x3E800000 0x3F000000 = 0x3E800000 := by decide

/-! ## The filter design, from the values V40 and V45 give for the transcendental functions -/

/-- Section 3 of V40. -/
theorem test_highpass : highpassSection [] 0x3D863BA7 (Config.invq 4 3) =
    ⟨0x3F78933B, 0xBFF8933B, 0x3F78933B, 0xBFF781DB, 0x3F734936⟩ := by decide
/-- Section 6 of V43. -/
theorem test_lowpass : lowpassSection [] 0x3D863BA7 (Config.invq 2 1) =
    ⟨0x3B857FC4, 0x3C057FC4, 0x3B857FC4, 0xBFF1BC33, 0x3F67A465⟩ := by decide
/-- The 12 dB row of V45. -/
theorem test_peak : peakSection [] 0x407EC9E1 0x3E05A8A9 0x3F7DCF55 0x3F800000 =
    ⟨0x3F8C15F1, 0xBFF5C55E, 0x3F579CAB, 0xBFF5C55E, 0x3F6FC88E⟩ := by decide +kernel
theorem test_omega : peakOmega [] 0x447A0000 0x473B8000 = 0x3E060A92 := by decide

/-! ## Commands -/

/-- The next state, or the reset state where there is none. -/
def after (o : Host.Outcome State Fault Refusal) : State :=
  match o with
  | .next t => t
  | .fault _ => State.reset
  | .refused _ => State.reset

/-- The last answer. -/
def answer (s : State) : Option Response := s.resps.getLast?

/-- A word as the first command after reset. -/
def first (w : Nat) : State := after (step (State.reset.withFetchWord 64 w))

/-- A session of two channels and 8 samples at 48 kHz, with the reset binding. -/
def demo : State := { State.reset with prepared := true, fs := 0x473B8000, nch := 2, maxblk := 8 }

/-- The same with one fault taken. -/
def demoFaulted : State := demo.raise .index 0x110D000000000000

theorem test_nop : first 0 = State.reset.respond ⟨false, 0⟩ := by decide
/-- R131: the default of `HC_FREQ`. -/
theorem test_getp : answer (first 0x1105000000000000) = some ⟨false, 0x469C4000⟩ := by decide
/-- R135: sections 0, 4 and 5 active, kind 0. -/
theorem test_rdsr_active : answer (first 0x1405000000000000) = some ⟨false, 0x00000031⟩ := by decide
/-- R251. -/
theorem test_rdsr_impl : answer (first 0x140C000000000000) = some ⟨false, 0x09011000⟩ := by decide
/-- R134. -/
theorem test_rdcoef : answer (first 0x1304000000000000) = some ⟨false, 0x3F800000⟩ := by decide
/-- R132: 1 and then 0. -/
theorem test_tcdirty : answer (first 0x1200000000000000) = some ⟨false, 1⟩ ∧
    answer (after (exec .tcdirty (first 0x1200000000000000))) = some ⟨false, 0⟩ := by decide
/-- R130. -/
theorem test_setp : (first 0x1003000041400000).getPar 3 = 0x41400000 ∧
    (after (exec (.setp 8 0) { demo with dirty := false })).dirty = true := by decide
/-- R223 and V60: `PROCESS 64` in the reset state. -/
theorem test_process_unprepared : statusWord (first 0x2100004000000000) = 0x00000026 ∧
    (first 0x2100004000000000).finfo = 0x2100004000000000 := by decide
/-- R229 and V65: `E_ILLEGAL` comes first. -/
theorem test_illegal_first : statusWord (first 0x2101004000000000) = 0x00000016 := by decide
/-- V62: `PREPARE 2, 512, 22050.0`. -/
theorem test_prepare_fault : statusWord (first 0x0202020046AC4400) = 0x00000036 := by decide
/-- R122: the session of the example, its flags, geometry and clear buffer. -/
theorem test_prepare : (first 0x02020200473B8000).nch = 2 ∧ (first 0x02020200473B8000).fs = 0x473B8000 ∧
    (first 0x02020200473B8000).maxblk = 512 ∧ (first 0x02020200473B8000).buf = [] := ⟨rfl, rfl, rfl, rfl⟩
theorem test_put_get : answer (after (exec (.get 1 5) (after (exec (.put 1 5 0xBF000000) demo)))) =
    some ⟨false, 0xBF000000⟩ := by decide
theorem test_get_other : answer (after (exec (.get 0 5) (after (exec (.put 1 5 0xBF000000) demo)))) =
    some ⟨false, 0⟩ := by decide
/-- R224: a mono session. -/
theorem test_put_index : statusWord (after (exec (.put 1 0 0) { demo with nch := 1 })) = 0x00000047 := by
  decide
/-- V35: an empty block leaves the mix value as it was. -/
theorem test_process_empty : (after (exec (.process 0) { demo with mixcur := 0x3F000000 })).mixcur =
    0x3F000000 := rfl
theorem test_process_settles : (after (exec (.process 1) { demo with mixcur := 0x3F000000 })).mixcur =
    0x3F800000 := rfl
/-- V47: the slope clamps and the kind falls back. -/
theorem test_update_slope : actBits (after (exec .update (demo.setPar 1 0xFFFFFFFF))).act = 0x03F ∧
    (after (exec .update (demo.setPar 10 9))).kindr = 0 := ⟨rfl, rfl⟩
/-- R121 and V61: `RESET` is executed while faulted. -/
theorem test_reset : statusWord (after (exec .reset demoFaulted)) = 0x00000004 := rfl
theorem test_refused : after (exec (.setp 12 0) demoFaulted) = demoFaulted.respond ⟨true, 0⟩ := by decide
theorem test_rdsr_faulted : answer (after (exec (.rdsr 0) demoFaulted)) = some ⟨false, 0x00000047⟩ ∧
    after (exec (.rdsr 13) demoFaulted) = demoFaulted.respond ⟨true, 0⟩ := by decide

/-! ## Hypotheses that can be met -/

theorem demo_inv : demo.Inv where
  session := by decide
  faultRecord := by decide
  active := by decide
  scalars := by decide
  stores := State.reset_stores

/-- The session with a NaN, a negative and a tiny sample, at the ends of its index ranges. -/
def demoLoaded : State :=
  ((demo.setBuf 0 0 0x7FC00000).setBuf 1 7 0xBF800000).setBuf 0 7 0x00000001

theorem demoLoaded_inv : demoLoaded.Inv where
  session := by decide
  faultRecord := by decide
  active := by decide
  scalars := by decide
  stores := by decide

/-- The session settled fully dry. -/
def demoDry : State := { demoLoaded.setPar 12 0 with mixcur := 0x80000000 }

theorem demoDry_inv : demoDry.Inv where
  session := by decide
  faultRecord := by decide
  active := by decide
  scalars := by decide
  stores := by decide

theorem witness_DecodeOfEncode : (Instr.put 255 65535 0xFFFFFFFF).wf = true := by decide
theorem witness_EncodeOfDecode : ∃ w i, decode w = .ok i := ⟨0x20010005BF000000, _, rfl⟩
theorem witness_DecodeAgreesWithTable :
    (∃ w, Opcode.put.row.selects w = true) ∧ ∃ w r, decode w = .error r :=
  ⟨⟨0x20010005BF000000, by decide⟩, 0xFFFFFFFFFFFFFFFF, _, rfl⟩
theorem witness_StepRunsDecodedCommand :
    ∃ (s : State) (w : CmdWord) (rest : List HostInput) (i : Instr), s.inp = .command w :: rest ∧ decode w = .ok i :=
  ⟨State.reset.withFetchWord 64 0x1105000000000000, _, _, _, rfl, rfl⟩
theorem witness_StepOnIllegalWord :
    (∃ (s : State) (w : CmdWord) (rest : List HostInput) (r : Reject),
      s.inp = .command w :: rest ∧ decode w = .error r ∧ s.fault = false) ∧
    ∃ (s : State) (w : CmdWord) (rest : List HostInput) (r : Reject),
      s.inp = .command w :: rest ∧ decode w = .error r ∧ s.fault = true :=
  ⟨⟨State.reset.withFetchWord 64 0xFF00000000000000, _, _, _, rfl, rfl, rfl⟩,
    demoFaulted.withFetchWord 64 0xFF00000000000000, _, _, _, rfl, rfl, rfl⟩
theorem witness_EveryWordAnsweredOnce : ∃ (s : State) (w : CmdWord) (rest : List HostInput),
    s.inp = .command w :: rest := ⟨State.reset.withFetchWord 64 0, _, _, rfl⟩
theorem witness_ResetInputAndIdleStep :
    (∃ (s : State) (rest : List HostInput), s.inp = .hardReset :: rest) ∧ ∃ s : State, s.inp = [] :=
  ⟨⟨demo.withInp [.hardReset], _, rfl⟩, State.reset, rfl⟩
theorem witness_FaultsArePrecise :
    ∃ i t, demo.fault = false ∧ exec i demo = .next t ∧ t.fault = true :=
  ⟨.getp 13, _, rfl, rfl, rfl⟩
theorem witness_ResetStateValues : (∃ s, exec .reset demoFaulted = .next s) ∧
    ∃ s, (∃ rest, (demo.withInp [.hardReset]).inp = .hardReset :: rest) ∧
      step (demo.withInp [.hardReset]) = .next s :=
  ⟨⟨_, rfl⟩, _, ⟨_, rfl⟩, rfl⟩
theorem witness_UnpreparedFault : State.reset.fault = false ∧ State.reset.prepared = false ∧
    ∃ t, exec .update State.reset = .next t ∧ t.fault = true ∧ t.cause = 2 :=
  ⟨rfl, rfl, _, rfl, rfl, rfl⟩
/-- The first indices out of range of every clause. -/
theorem witness_IndexFault : demo.fault = false ∧ demo.prepared = true ∧ 13 > 12 ∧ 9 > 8 ∧ 5 > 4 ∧
    2 ≥ demo.nch.toNat ∧ 8 ≥ demo.maxblk.toNat ∧ 9 > demo.maxblk.toNat ∧
    State.reset.fault = false ∧ State.reset.prepared = false := by decide
/-- One argument at a time just outside its range. -/
theorem witness_PrepareFault : State.reset.fault = false ∧ (3 ≠ 1 ∧ 3 ≠ 2) ∧ 4097 > 4096 ∧
    isNaN 0x7FC00000 = true ∧ flt 0x472C43FF 0x472C4400 = true ∧ fgt 0x483B8001 0x483B8000 = true := by
  decide
/-- The word of `RESET`, the last legal word of `RDSR`, and the first illegal one after it. -/
theorem witness_RefusalWhileFaulted : demoFaulted.fault = true ∧
    (demoFaulted.withInp [.command 0x0100000000000000]).inp = [.command 0x0100000000000000] ∧
    (0x140C000000000000#64 = BitVec.ofNat 64 (0x14 * 2 ^ 56 + 12 * 2 ^ 48)) ∧
    (0x140D000000000000#64 ≠ 0x0100000000000000#64) ∧
    ∀ r ≤ 12, 0x140D000000000000#64 ≠ BitVec.ofNat 64 (0x14 * 2 ^ 56 + r * 2 ^ 48) := by decide
theorem witness_NopCompletes : State.reset.Ready := by decide
theorem witness_PrepareCompletes : State.reset.Ready ∧ (2 = 1 ∨ 2 = 2) ∧ 1 ≤ 4096 ∧ 4096 ≤ 4096 ∧
    within 0x472C4400 0x483B8000 0x483B8000 = true := by decide
theorem witness_SetpCompletes : State.reset.Ready ∧ 12 ≤ 12 := by decide
theorem witness_GetpCompletes : State.reset.Ready ∧ 12 ≤ 12 := by decide
theorem witness_SetpThenGetpRoundTrip : State.reset.Ready ∧ 0 ≤ 12 := by decide
theorem witness_TcdirtyCompletes : State.reset.Ready := by decide
theorem witness_RdcoefCompletes : State.reset.Ready ∧ 4 ≤ 4 ∧
    State.reset.coef[8]? = some Coefs.identity := by decide
theorem witness_RdsrCompletes : 12 ≤ 12 := by decide
theorem witness_PutCompletes : demoLoaded.ReadyInSession ∧ demoLoaded.buf.wf ∧
    1 < demoLoaded.nch.toNat ∧ 7 < demoLoaded.maxblk.toNat := by decide
theorem witness_GetCompletes : demoLoaded.ReadyInSession ∧ 1 < demoLoaded.nch.toNat ∧
    7 < demoLoaded.maxblk.toNat := by decide
theorem witness_UpdateCompletes : demo.ReadyInSession := by decide
theorem witness_SlopeOrderCountsActiveSections :
    ∃ t, demo.ReadyInSession ∧ exec .update demo = .next t := ⟨_, by decide, rfl⟩
/-- A register in range, below, above, and a NaN. -/
theorem witness_SnapshotInRange : within 0x41A00000 0x469C4000 ((demo.setPar 0 0x447A0000).getPar 0) = true ∧
    flt ((demo.setPar 0 0x419FFFFF).getPar 0) 0x41A00000 = true ∧
    fgt ((demo.setPar 0 0x469C4001).getPar 0) 0x469C4000 = true ∧
    isNaN ((demo.setPar 0 0x7FC00000).getPar 0) = true := by decide
theorem witness_UpdateIsIdempotent : ∃ t u, demo.Inv ∧ demo.ReadyInSession ∧
    exec .update demo = .next t ∧ exec .update t = .next u := ⟨_, _, demo_inv, by decide, rfl, rfl⟩
theorem witness_FlatPeakCoefficients : ∃ t, demo.Inv ∧ demo.ReadyInSession ∧
    isZero (demo.getPar 3) = true ∧ exec .update demo = .next t :=
  ⟨_, demo_inv, by decide, by decide, rfl⟩
/-- A finite product, at every place. -/
theorem fmul_half_negOne (k : Site) : isFinite (fmul k 0x3F000000 0xBF800000) = true := by
  have h : fmul k 0x3F000000 0xBF800000 = roundTo true (mag 0x3F000000 * mag 0xBF800000) (2 ^ 149) := by
    unfold fmul
    rw [if_neg (by decide), if_neg (by decide)]
    rfl
  rw [h]
  decide

theorem witness_FlatSectionIsIdentity :
    let c : Coefs := ⟨0x3F800000, 0x3F000000, 0x3F000000, 0x3F000000, 0x3F000000⟩
    c.b0 = 0x3F800000 ∧ c.b1 = c.a1 ∧ c.b2 = c.a2 ∧ isFinite 0xBF800000 = true ∧
      (0xBF800000 : Word) ≠ 0x80000000 ∧ (∀ k, isFinite (fmul k c.a1 0xBF800000) = true) ∧
      ∀ k, isFinite (fmul k c.a2 0xBF800000) = true :=
  ⟨rfl, rfl, rfl, rfl, by decide, fmul_half_negOne, fmul_half_negOne⟩
theorem witness_ResetSectionBehaviour : (isFinite 0xBF800000 = true ∧ (0xBF800000 : Word) ≠ 0x80000000) ∧
    isInf 0xFF800000 = true := by decide
theorem witness_BypassIsIdentity : (4 ≤ 4 ∧
    ({ demo with act := Vector.replicate 9 true }).ActivePrefix 5 4 ∧ demo.ActivePrefix 0 1) ∧ (∀ j < 4, ({ demo with act := Vector.replicate 9 false }).getAct (5 + j) = false) ∧
    demo.getAct 1 = false ∧ 1 ≠ 4 := by decide
theorem witness_ProcessCompletes : demoLoaded.ReadyInSession ∧ 8 ≤ demoLoaded.maxblk.toNat ∧
    demoLoaded.getAct 1 = false := by decide
theorem witness_ProcessComputesChannelStreams : ∃ t, demoLoaded.Inv ∧ demoLoaded.ReadyInSession ∧
    8 ≤ demoLoaded.maxblk.toNat ∧ exec (.process 8) demoLoaded = .next t ∧ 1 < demoLoaded.nch.toNat :=
  ⟨_, demoLoaded_inv, by decide, by decide, rfl, by decide⟩
theorem witness_ChannelsAreIndependent : ∃ s' t t', demo.Inv ∧ s'.Inv ∧ demo.ReadyInSession ∧
    8 ≤ demo.maxblk.toNat ∧ s' = { demo with buf := s'.buf, z := s'.z } ∧
    (∀ i < 65536, s'.getBuf 0 i = demo.getBuf 0 i) ∧ s'.getZ 0 = demo.getZ 0 ∧
    exec (.process 8) demo = .next t ∧ exec (.process 8) s' = .next t' := by
  refine ⟨demo.setBuf 1 7 0x3F800000, _, _, demo_inv, ⟨?_, ?_, ?_, ?_, ?_⟩, by decide, by decide, rfl, ?_,
    rfl, rfl, rfl⟩
  · decide
  · decide
  · decide
  · decide
  · decide
  · intro i hi
    exact Mem.read_write_other _ _ _ _ (sampleKey_ne 1 7 0 i (by decide) hi (.inl (by decide)))
theorem witness_SettledDryMixPassesInput : ∃ t, demoDry.Inv ∧ demoDry.ReadyInSession ∧
    8 ≤ demoDry.maxblk.toNat ∧ isZero demoDry.mixcur = true ∧ isZero (demoDry.getPar 12) = true ∧
    exec (.process 8) demoDry = .next t ∧ 1 < demoDry.nch.toNat ∧ 7 < 8 ∧
    isNaN (demoDry.getBuf 1 7) = false :=
  ⟨_, demoDry_inv, by decide, by decide, by decide, by decide, rfl, by decide, by decide, by decide⟩
theorem witness_MixEnds : (isNaN 0x7F800000 = false ∧ isFinite 0xBF800000 = true) ∧
    isFinite 0x3F000000 = true ∧ isNaN 0xFF800000 = false := by decide
theorem witness_SettledRampIsConstant : isFinite 0x80000000 = true ∧ feq 0 0x80000000 = true ∧
    4096 ≤ 4096 ∧ 4095 < 4096 := by decide
theorem witness_WetSampleIsFinite : demo.Inv := demo_inv
/-- Two functions that send every NaN to a NaN, the second another one than it was given. -/
theorem witness_WaveshaperContract : ∃ sin cos : Word → Word,
    ∀ x, isNaN x = true → isNaN (sin x) = true ∧ isNaN (cos x) = true :=
  ⟨id, fun x => if isNaN x then 0x7FC00001 else Config.one, fun x h => ⟨h, by simp only [h]; decide⟩⟩
theorem witness_HardclipOddAndTransparent : isNaN 0x3F000000 = false ∧
    within 0 0x3F7D70A4 0x3F000000 = true ∧ fle (fabs 0x3F000000) (fsub [] 0x3F800000 0x3F000000) = true := by
  decide
theorem witness_WaveshaperZeroInZeroOut : within 0 0x3F7D70A4 0x3F7D70A4 = true := by decide
/-- The largest finite sample, and samples whose products with pi and with 512 are still finite. -/
theorem witness_FiveKindsTransparentAtZeroAmount : isInf 0x7F7FFFFF = false ∧
    isFinite (fmul [] 0x40490FDB 0x7E800000) = true ∧ isFinite (fmul [] 0xFAFFFFFF 0x44000000) = true ∧
    isNaN 0x7FC00000 = true := by decide
theorem witness_Sat1Clamps : isNaN 0x7FC00000 = true ∧ fgt 0x3F800001 0x3F800000 = true ∧
    flt 0xBF800001 0xBF800000 = true ∧ within 0xBF800000 0x3F800000 0x3F800000 = true := by decide
theorem witness_ClampFStaysInRange : isFinite 0 = true ∧ isFinite 0x3F7D70A4 = true ∧
    fle 0 0x3F7D70A4 = true ∧ within 0 0x3F7D70A4 0 = true ∧ isNaN 0x7FC00000 = true ∧
    flt 0x80000001 0 = true ∧ fgt 0x3F7D70A5 0x3F7D70A4 = true ∧ within 0 0x3F7D70A4 0x80000000 = true := by
  decide
theorem witness_RoundingIsNearestEven : 0 < 2 ∧ isFinite (roundTo true 3 2) = true ∧
    isFinite 0x00000001 = true := by decide
theorem witness_ArithmeticIsCorrectlyRounded : isFinite 0x3F800000 = true ∧ isFinite 0x40400000 = true ∧
    isZero 0x40400000 = false ∧ 0 ≤ value 0x3F800000 ∧ 0 ≤ value 0x80000000 ∧ 2 ^ 24 ≤ 2 ^ 24 ∧
    isFinite 0xFF800000 = false := by decide
theorem witness_SpecialOperands : isNaN 0x7FC00000 = true ∧ isInf 0xFF800000 = true ∧
    isInf 0x7F800000 = true ∧ signBit 0x7F800000 ≠ signBit 0xFF800000 ∧
    isZero 0x80000000 = true ∧ isFinite 0x3F800000 = true ∧ isNaN 0x3F800000 = false ∧
    isZero 0x3F800000 = false ∧ value 0x3F800000 + value 0xBF800000 = 0 ∧
    value 0x3F800000 - value 0x3F800000 = 0 ∧ isNaN (fmul [] 0x80000000 0x3F800000) = false ∧
    isNaN (fdiv [] 0x80000000 0x3F800000) = false ∧ signBit 0xBF800000 = true := by decide
theorem witness_ExactArithmeticFacts : isNaN 0x7F800000 = false ∧ (0x3F800000 : Word) ≠ 0x80000000 ∧
    isFinite 0x3F800000 = true ∧ isZero 0x3F800000 = false ∧
    isNaN (fmul [] 0x3F800000 0x3F800000) = false ∧ isNaN (fadd [] 0x3F800000 0x3F800000) = false ∧
    value 0x40000000 = value 0x3F800000 + value 0x3F800000 ∧
    value 0 = value 0x3F800000 - value 0x3F800000 ∧
    value 0x3F800000 * 2 ^ 149 = value 0x3F800000 * value 0x3F800000 := by decide
theorem witness_IntegerSquareRoot : 2 ^ 214 * 2 ^ 214 - 1 < 2 ^ 214 * 2 ^ 214 := by decide
theorem witness_TranscendentalContracts : within 0x39000000 0x3FB80000 0x3FB80000 = true ∧
    isFinite 0x7F7FFFFF = true ∧ isFinite 0x7F800000 = false ∧
    within 0xC2100000 0x42100000 0xC2100000 = true := by decide
theorem witness_StepKeepsInvariant : ∃ t, (demo.withInp [.command 0x2100000800000000]).Inv ∧
    step (demo.withInp [.command 0x2100000800000000]) = .next t :=
  ⟨_, ⟨demo_inv.1, demo_inv.2, demo_inv.3, demo_inv.4, demo_inv.5⟩, rfl⟩
theorem witness_StepKeepsCoefficientsFinite : ∃ t, demo.Inv ∧ demo.CoefFinite ∧ step demo = .next t :=
  ⟨_, demo_inv, by unfold State.CoefFinite; decide, rfl⟩
theorem witness_OnlyNamedCommandsWrite : ∃ i s t, exec i s = .next t := ⟨.update, demo, _, rfl⟩
theorem witness_FirstFaultRecordKept : ∃ t, demoFaulted.fault = true ∧ step demoFaulted = .next t ∧
    (∀ rest, demoFaulted.inp ≠ .hardReset :: rest) ∧
    (∀ rest, demoFaulted.inp ≠ .command 0x0100000000000000 :: rest) := by
  have h : demoFaulted.inp = [] := rfl
  refine ⟨_, rfl, rfl, ?_, ?_⟩ <;> (intro rest; rw [h]; exact List.cons_ne_nil _ _ |>.symm)

end Sys2Proof.Tests
end

section
/-! PROOF. Every presented word is answered exactly once (00_scope.md R14): no operation but the step
itself takes a word off the input port, and every way a command can end gives one response. -/

namespace Sys2Proof.Machine

/-! ## The ports under the updater and the block loop -/

@[simp] theorem withBinding_inp (s t : State) : (s.withBinding t).inp = s.inp := rfl

@[simp] theorem withBinding_resps (s t : State) : (s.withBinding t).resps = s.resps := rfl

@[simp] theorem updateProc_inp (P : Params) (k : Site) (s : State) : (updateProc P k s).inp = s.inp := by
  rw [updateProc_frame, withBinding_inp]

@[simp] theorem updateProc_resps (P : Params) (k : Site) (s : State) :
    (updateProc P k s).resps = s.resps := by
  rw [updateProc_frame, withBinding_resps]

@[simp] theorem processBlock_inp (P : Params) (k : Site) (n : Nat) (s : State) :
    (processBlock P k n s).inp = s.inp := by
  rw [processBlock_frame]

@[simp] theorem processBlock_resps (P : Params) (k : Site) (n : Nat) (s : State) :
    (processBlock P k n s).resps = s.resps := by
  rw [processBlock_frame]

/-! ## One answer -/

/-- `t` comes from `s` by one answer: the input port is as it was, one response is added, and an error
answer carries 0 (30_encoding.md R71). -/
def State.AnswersOnce (s t : State) : Prop :=
  t.inp = s.inp ∧ ∃ r : Response, t.resps = s.resps ++ [r] ∧ (r.err = true → r.data = 0)

/-- Completion: what the effect of a command leaves of the ports, with `OK` added. -/
theorem answersOnce_respond_ok {s done : State} (hinp : done.inp = s.inp)
    (hresps : done.resps = s.resps) (v : Word) : s.AnswersOnce (done.respond (.ok v)) :=
  ⟨hinp, .ok v, by rw [State.respond_resps, hresps], fun herr => absurd herr Bool.false_ne_true⟩

theorem answersOnce_raise (s : State) (c : Cause) (w : CmdWord) : s.AnswersOnce (s.raise c w) :=
  ⟨rfl, .error, rfl, fun _ => rfl⟩

theorem answersOnce_refuse (s : State) : s.AnswersOnce s.refuse := ⟨rfl, .error, rfl, fun _ => rfl⟩

/-- A checked command answers once, however its checks end, when its effect leaves the ports alone. -/
theorem answersOnce_runCommand {s done : State} (hinp : done.inp = s.inp)
    (hresps : done.resps = s.resps) (i : Instr) (checks : List (Bool × Cause)) (data : Word) :
    s.AnswersOnce (runCommand i checks done data s) := by
  obtain ⟨-, h⟩ | ⟨c, -, -, h⟩ | ⟨-, -, h⟩ := runCommand_cases i checks done data s
  · rw [h]
    exact answersOnce_refuse s
  · rw [h]
    exact answersOnce_raise s c _
  · rw [h]
    exact answersOnce_respond_ok hinp hresps data

theorem answersOnce_illegalWord (w : CmdWord) (s : State) : s.AnswersOnce (illegalWord w s) := by
  unfold illegalWord
  split
  · exact answersOnce_refuse s
  · exact answersOnce_raise s _ w

/-- `RDSR` answers past the fault check when its register exists (42_parameter_ops.md R135). -/
theorem answersOnce_runRdsr (P : Params) (r : Nat) (s : State) : s.AnswersOnce (runRdsr P r s) := by
  unfold runRdsr
  split
  · exact answersOnce_respond_ok rfl rfl _
  · exact answersOnce_runCommand rfl rfl _ _ _

/-- Every command of every instance answers once, in every state. -/
theorem answersOnce_run (P : Params) (i : Instr) (s : State) : s.AnswersOnce (run P i s) := by
  cases i with
  | nop => exact answersOnce_runCommand rfl rfl _ _ _
  | reset => exact answersOnce_respond_ok rfl rfl _
  | prepare nch maxblk fs => exact answersOnce_runCommand (by simp) (by simp) _ _ _
  | update => exact answersOnce_runCommand (by simp) (by simp) _ _ _
  | setp p v => exact answersOnce_runCommand (by simp) (by simp) _ _ _
  | getp p => exact answersOnce_runCommand rfl rfl _ _ _
  | tcdirty => exact answersOnce_runCommand (by simp) (by simp) _ _ _
  | rdcoef sec k => exact answersOnce_runCommand rfl rfl _ _ _
  | rdsr r => exact answersOnce_runRdsr P r s
  | put c ix x => exact answersOnce_runCommand (by simp) (by simp) _ _ _
  | process n => exact answersOnce_runCommand (by simp) (by simp) _ _ _
  | get c ix => exact answersOnce_runCommand rfl rfl _ _ _

/-! ## One step -/

theorem stepIn_of_decode_ok (P : Params) {s : State} {w : CmdWord} {rest : List HostInput} {i : Instr}
    (h : s.inp = .command w :: rest) (hi : decode w = .ok i) :
    stepIn P s = run P i (s.withInp rest) := by
  simp only [stepIn, h, hi]

theorem stepIn_of_decode_error (P : Params) {s : State} {w : CmdWord} {rest : List HostInput}
    {e : Reject} (h : s.inp = .command w :: rest) (he : decode w = .error e) :
    stepIn P s = illegalWord w (s.withInp rest) := by
  simp only [stepIn, h, he]

/-- A presented word, legal or not, is taken off the port and then answered once. -/
theorem answersOnce_stepIn (P : Params) {s : State} {w : CmdWord} {rest : List HostInput}
    (h : s.inp = .command w :: rest) : (s.withInp rest).AnswersOnce (stepIn P s) := by
  cases hd : decode w with
  | ok i =>
    rw [stepIn_of_decode_ok P h hd]
    exact answersOnce_run P i _
  | error e =>
    rw [stepIn_of_decode_error P h hd]
    exact answersOnce_illegalWord w _

/-- A word's step is the step of the reference instance (00_scope.md R7). -/
theorem runWord_eq_stepIn {s : State} {w : CmdWord} {rest : List HostInput}
    (h : s.inp = .command w :: rest) :
    runWord w (s.withInp rest) = .next (stepIn .reference s) := by
  unfold runWord
  cases hd : decode w with
  | ok i => rw [stepIn_of_decode_ok .reference h hd, ← exec_eq_run]
  | error e => rw [stepIn_of_decode_error .reference h hd]

/-- Every step is that of the reference instance: no step stops with a fault or is refused. -/
theorem step_eq_stepIn (s : State) : step s = .next (stepIn .reference s) := by
  unfold step
  split
  case h_1 h => simp only [stepIn, h]
  case h_2 rest h => simp only [stepIn, h]
  case h_3 w rest h => exact runWord_eq_stepIn h

/-- Settles O8: a word is answered once in every instance, and `step` is the reference instance. -/
theorem everyWordAnsweredOnce : Obligations.EveryWordAnsweredOnce := by
  unfold Obligations.EveryWordAnsweredOnce
  intro s w rest h
  have answered (P : Params) : ∃ r, (stepIn P s).inp = rest ∧ (stepIn P s).resps = s.resps ++ [r] ∧
      (r.err = true → r.data = 0) := by
    obtain ⟨hinp, r, hresps, hdata⟩ := answersOnce_stepIn P h
    exact ⟨r, hinp, hresps, hdata⟩
  obtain ⟨r, hr⟩ := answered .reference
  exact ⟨⟨_, r, step_eq_stepIn s, hr⟩, step_eq_stepIn s, answered⟩

end Sys2Proof.Machine
end

section
/-! PROOF. What every step keeps (10_state.md). The checks and the effect of a command are named once, and
`run_cases` says what running it can do. Each update of the state keeps the invariant, so the effect of each
command does, and so does every step. -/

namespace Sys2Proof.Machine

/-! ## What a command can do -/

/-- The conditions a command checks, in the order in which it checks them (60_exceptions.md R223 to R225,
R229). -/
def commandChecks (P : Params) (i : Instr) (s : State) : List (Bool × Cause) :=
  match i with
  | .nop | .reset | .tcdirty => []
  | .prepare nch maxblk fs => [(prepareArgsOk P nch maxblk fs, .prepare)]
  | .update => [(s.prepared, .unprepared)]
  | .setp p _ | .getp p => [(parIndexOk P p, .index)]
  | .rdcoef sec k => [(coefIndexOk P sec k, .index)]
  | .rdsr r => [(srIndexOk r, .index)]
  | .put c ix _ | .get c ix => [(s.prepared, .unprepared), (sampleIndexOk c ix s, .index)]
  | .process n => [(s.prepared, .unprepared), (lengthOk n s, .index)]

/-- What a command makes of the state when it completes, less the answer it gives. -/
def commandEffect (P : Params) (i : Instr) (s : State) : State :=
  match i with
  | .nop | .getp _ | .rdcoef _ _ | .rdsr _ | .get _ _ => s
  | .reset => s.resetBlock P
  | .prepare nch maxblk fs => settleMix (updateProc P s.site (openSession nch maxblk fs s.draw))
  | .update => updateProc P s.site s.draw
  | .setp p v => (s.setPar p v).setDirty true
  | .tcdirty => s.setDirty false
  | .put c ix x => s.setBuf c ix x
  | .process n => processBlock P (1 :: s.site) n (updateProc P (0 :: s.site) s.draw)

/-- A command is checked, with these conditions and this effect, or completes past the fault check: `RESET`,
and `RDSR` of a register that exists (60_exceptions.md R228). -/
theorem run_completes_or_checked (P : Params) (i : Instr) (s : State) :
    (firstFault (commandChecks P i s) = none ∧
        ∃ v, run P i s = (commandEffect P i s).respond (.ok v)) ∨
      ∃ data, run P i s = runCommand i (commandChecks P i s) (commandEffect P i s) data s := by
  cases i with
  | reset => exact .inl ⟨rfl, 0, rfl⟩
  | rdsr r =>
    cases hr : srIndexOk r with
    | true =>
      exact .inl ⟨by simp [commandChecks, hr], sysReg P r s, by simp [run, runRdsr, hr, commandEffect]⟩
    | false => exact .inr ⟨0, by simp [run, runRdsr, hr, commandChecks, commandEffect]⟩
  | getp p => exact .inr ⟨s.getPar p, rfl⟩
  | tcdirty => exact .inr ⟨flagWord s.dirty, rfl⟩
  | rdcoef sec k => exact .inr ⟨(s.getCoef sec).get k, rfl⟩
  | get c ix => exact .inr ⟨s.getBuf c ix, rfl⟩
  | _ => exact .inr ⟨0, rfl⟩

/-- A command is refused, or raises the fault of its first failed check, or takes effect and answers
(30_encoding.md R77). -/
theorem run_cases (P : Params) (i : Instr) (s : State) :
    (s.fault = true ∧ run P i s = s.refuse) ∨
      (∃ c, s.fault = false ∧ firstFault (commandChecks P i s) = some c ∧
        run P i s = s.raise c (encode i)) ∨
      (firstFault (commandChecks P i s) = none ∧
        ∃ v, run P i s = (commandEffect P i s).respond (.ok v)) := by
  obtain h | ⟨data, h⟩ := run_completes_or_checked P i s
  · exact .inr (.inr h)
  · rw [h]
    exact (runCommand_cases i _ _ data s).imp_right
      (.imp_right fun ⟨_, hchecks, hrun⟩ => ⟨hchecks, data, hrun⟩)

/-- What the answer and fault entry keep, and the effect of the command establishes, holds after the
command. -/
theorem run_keeps {p : State → Prop} (hrespond : ∀ u r, p u → p (u.respond r))
    (hraise : ∀ u c w, p u → p (u.raise c w)) {P : Params} {i : Instr} {s : State} (hs : p s)
    (heffect : firstFault (commandChecks P i s) = none → p (commandEffect P i s)) : p (run P i s) := by
  obtain ⟨-, h⟩ | ⟨c, -, -, h⟩ | ⟨hchecks, v, h⟩ := run_cases P i s
  · rw [h]
    exact hrespond _ _ hs
  · rw [h]
    exact hraise _ _ _ hs
  · rw [h]
    exact hrespond _ _ (heffect hchecks)

/-- A view of the state that no answer and no fault entry changes is kept by a command whose effect keeps
it. -/
theorem run_view {α : Type} (f : State → α) (hrespond : ∀ u r, f (u.respond r) = f u)
    (hraise : ∀ u c w, f (u.raise c w) = f u) {P : Params} {i : Instr} {s : State}
    (heffect : f (commandEffect P i s) = f s) : f (run P i s) = f s :=
  run_keeps (p := fun u => f u = f s) (fun u r hu => (hrespond u r).trans hu)
    (fun u c w hu => (hraise u c w).trans hu) rfl fun _ => heffect

/-! ## What the updater and the block loop leave alone -/

section
variable (P : Params) (k : Site) (n : Nat) (s : State)

@[simp] theorem updateProc_par : (updateProc P k s).par = s.par := by rw [updateProc_frame]; rfl
@[simp] theorem updateProc_prepared : (updateProc P k s).prepared = s.prepared := by
  rw [updateProc_frame]; rfl
@[simp] theorem updateProc_fs : (updateProc P k s).fs = s.fs := by rw [updateProc_frame]; rfl
@[simp] theorem updateProc_nch : (updateProc P k s).nch = s.nch := by rw [updateProc_frame]; rfl
@[simp] theorem updateProc_maxblk : (updateProc P k s).maxblk = s.maxblk := by rw [updateProc_frame]; rfl
@[simp] theorem updateProc_dirty : (updateProc P k s).dirty = s.dirty := by rw [updateProc_frame]; rfl
@[simp] theorem updateProc_fault : (updateProc P k s).fault = s.fault := by rw [updateProc_frame]; rfl
@[simp] theorem updateProc_cause : (updateProc P k s).cause = s.cause := by rw [updateProc_frame]; rfl
@[simp] theorem updateProc_finfo : (updateProc P k s).finfo = s.finfo := by rw [updateProc_frame]; rfl
@[simp] theorem updateProc_mixcur : (updateProc P k s).mixcur = s.mixcur := by rw [updateProc_frame]; rfl
@[simp] theorem updateProc_z : (updateProc P k s).z = s.z := by rw [updateProc_frame]; rfl
@[simp] theorem updateProc_buf : (updateProc P k s).buf = s.buf := by rw [updateProc_frame]; rfl
@[simp] theorem updateProc_dry : (updateProc P k s).dry = s.dry := by rw [updateProc_frame]; rfl

@[simp] theorem processBlock_par : (processBlock P k n s).par = s.par := by rw [processBlock_frame]
@[simp] theorem processBlock_prepared : (processBlock P k n s).prepared = s.prepared := by
  rw [processBlock_frame]
@[simp] theorem processBlock_fs : (processBlock P k n s).fs = s.fs := by rw [processBlock_frame]
@[simp] theorem processBlock_nch : (processBlock P k n s).nch = s.nch := by rw [processBlock_frame]
@[simp] theorem processBlock_maxblk : (processBlock P k n s).maxblk = s.maxblk := by
  rw [processBlock_frame]
@[simp] theorem processBlock_dirty : (processBlock P k n s).dirty = s.dirty := by rw [processBlock_frame]
@[simp] theorem processBlock_fault : (processBlock P k n s).fault = s.fault := by rw [processBlock_frame]

end

/-! ## The activity bits that the updater binds (45_coefficient_update.md R193) -/

theorem getAct_setAct (s : State) (n m : Nat) (b : Bool) (hn : n < 9) :
    (s.setAct n b).getAct m = if m = n then b else s.getAct m := by
  unfold State.getAct
  rw [State.setAct_act, Vector.getElem?_setIfInBounds]
  by_cases h : n = m
  · rw [if_pos h, if_pos hn, if_pos h.symm, Option.getD_some]
  · rw [if_neg h, if_neg (Ne.symm h)]

/-- Of the `len` bits written from `base` on, the first `n` are set and the rest clear; every other bit is as
it was. -/
theorem getAct_foldl_setAct (base n m : Nat) (s : State) (len : Nat) (hlen : base + len ≤ 9) :
    ((List.range len).foldl (fun s j => s.setAct (base + j) (decide (j < n))) s).getAct m =
      if base ≤ m ∧ m < base + len then decide (m < base + n) else s.getAct m := by
  induction len with
  | zero => rw [if_neg (by omega)]; rfl
  | succ len ih =>
    rw [List.range_succ, List.foldl_append, List.foldl_cons, List.foldl_nil,
      getAct_setAct _ _ _ _ (by omega), ih (by omega)]
    by_cases hm : m = base + len
    · subst hm
      simp
    · rw [if_neg hm]
      exact if_congr (by omega) rfl rfl

theorem getAct_bindActive (base n m : Nat) (s : State) (hbase : base + 4 ≤ 9) :
    (bindActive base n s).getAct m =
      if base ≤ m ∧ m < base + 4 then decide (m < base + n) else s.getAct m :=
  getAct_foldl_setAct base n m s 4 hbase

theorem getAct_bindCut (P : Params) (k : Site) (base : Nat) (fc : Word) (q : Nat) (t : CutType)
    (s : State) (m : Nat) (hbase : base + 4 ≤ 9) :
    (bindCut P k base fc q t s).getAct m =
      if base ≤ m ∧ m < base + 4 then decide (m < base + (q + 1)) else s.getAct m := by
  rw [← getAct_bindActive base (q + 1) m s hbase]
  unfold bindCut
  rw [bindSections_frame]
  rfl

/-- Every activity bit after the updater: in each cascade the sections below its slope order, and no bit
outside the cascades is written. -/
theorem getAct_updateProc (P : Params) (k : Site) (s : State) (m : Nat) :
    (updateProc P k s).getAct m =
      if 5 ≤ m ∧ m < 5 + 4 then decide (m < 5 + ((snapshot P s).hcq + 1))
      else if 0 ≤ m ∧ m < 0 + 4 then decide (m < 0 + ((snapshot P s).lcq + 1)) else s.getAct m := by
  rw [← getAct_bindCut P (0 :: k) 0 (snapshot P s).lcf (snapshot P s).lcq .highpass s m (by decide),
    ← getAct_bindCut P (1 :: k) 5 (snapshot P s).hcf (snapshot P s).hcq .lowpass _ m (by decide)]
  rfl

theorem updateProc_activePrefix_low (P : Params) (k : Site) (s : State) :
    (updateProc P k s).ActivePrefix 0 ((snapshot P s).lcq + 1) := by
  intro j hj
  have hj4 : j < 4 := List.mem_range.1 hj
  rw [getAct_updateProc, if_neg (by omega), if_pos (by omega)]
  exact decide_eq_decide.2 (by omega)

theorem updateProc_activePrefix_high (P : Params) (k : Site) (s : State) :
    (updateProc P k s).ActivePrefix 5 ((snapshot P s).hcq + 1) := by
  intro j hj
  have hj4 : j < 4 := List.mem_range.1 hj
  rw [getAct_updateProc, if_pos (by omega)]
  exact decide_eq_decide.2 (by omega)

theorem updateProc_peakActive (P : Params) (k : Site) (s : State) :
    (updateProc P k s).getAct 4 = s.getAct 4 := by
  rw [getAct_updateProc, if_neg (by decide), if_neg (by decide)]

/-! ## Clamped values -/

theorem fle_refl {a : Word} (ha : isNaN a = false) : fle a a = true := by simp [fle, ha]

/-- A value is in a range exactly when it is a number neither below nor above it. -/
theorem within_iff {lo hi : Word} (hlo : isNaN lo = false) (hhi : isNaN hi = false) (v : Word) :
    within lo hi v = true ↔ isNaN v = false ∧ flt v lo = false ∧ fgt v hi = false := by
  cases hv : isNaN v <;> simp [within, fle, flt, fgt, hlo, hhi, hv]

theorem not_isNaN_of_fle {a b : Word} (h : fle a b = true) : isNaN a = false ∧ isNaN b = false := by
  simp only [fle, Bool.and_eq_true, Bool.not_eq_true'] at h
  exact h.1

/-- `clampF` to a range around its default stays in the range (40_numerics.md R109). -/
theorem within_clampF {lo hi d : Word} (hle : fle lo hi = true) (hd : within lo hi d = true) (v : Word) :
    within lo hi (clampF v lo hi d) = true := by
  obtain ⟨hlo, hhi⟩ := not_isNaN_of_fle hle
  unfold clampF
  split
  next => exact hd
  next hnan =>
    split
    next => rw [within, fle_refl hlo, hle]; rfl
    next hbelow =>
      split
      next => rw [within, hle, fle_refl hhi]; rfl
      next habove =>
        exact (within_iff hlo hhi v).2
          ⟨Bool.eq_false_of_not_eq_true hnan, Bool.eq_false_of_not_eq_true hbelow,
            Bool.eq_false_of_not_eq_true habove⟩

/-- On its domain `f_db2lin` lies in the range that its contract gives it (40_numerics.md R107). -/
theorem within_f_db2lin {d : Word} (hd : within dbDomainMin dbDomainMax d = true) :
    within linearLow linearHigh (f_db2lin d) = true := by
  unfold f_db2lin
  rw [if_pos hd]
  split
  · decide
  · exact within_clampF (by decide) (by decide) _

theorem clampU_eq_min (u hi : Nat) : clampU u hi = min u hi := by
  unfold clampU
  split <;> omega

@[simp] theorem snapshot_lcq (P : Params) (s : State) : (snapshot P s).lcq = min (s.getPar 1).toNat 3 :=
  clampU_eq_min _ _

@[simp] theorem snapshot_hcq (P : Params) (s : State) : (snapshot P s).hcq = min (s.getPar 6).toNat 3 :=
  clampU_eq_min _ _

theorem kindsel_lt {P : Params} (h : 0 < P.nkind) (u : Nat) : kindsel P u < P.nkind := by
  unfold kindsel
  split <;> omega

/-- A slope order, one more than the clamped slope index, is one of the four (10_state.md R23). -/
theorem min_three_succ_mem (u : Nat) : min u 3 + 1 ∈ [1, 2, 3, 4] := by
  have h : min u 3 ≤ 3 := Nat.min_le_right u 3
  interval_cases min u 3 <;> decide

/-! ## The updates of the state keep the invariant -/

section
variable {s : State}

theorem inv_respond (h : s.Inv) (r : Response) : (s.respond r).Inv :=
  ⟨h.session, h.faultRecord, h.active, h.scalars, h.stores⟩

theorem inv_withInp (h : s.Inv) (l : List HostInput) : (s.withInp l).Inv :=
  ⟨h.session, h.faultRecord, h.active, h.scalars, h.stores⟩

theorem inv_draw (h : s.Inv) : s.draw.Inv :=
  ⟨h.session, h.faultRecord, h.active, h.scalars, h.stores⟩

theorem inv_setPar (h : s.Inv) (p : Nat) (v : Word) : (s.setPar p v).Inv :=
  ⟨h.session, h.faultRecord, h.active, h.scalars, h.stores⟩

theorem inv_setDirty (h : s.Inv) (b : Bool) : (s.setDirty b).Inv :=
  ⟨h.session, h.faultRecord, h.active, h.scalars, h.stores⟩

theorem inv_setZ (h : s.Inv) (c : Nat) (zs : Vector Delay 9) : (s.setZ c zs).Inv :=
  ⟨h.session, h.faultRecord, h.active, h.scalars, h.stores⟩

/-- The four codes are those of 60_exceptions.md R221. -/
theorem cause_code_range (c : Cause) : c.code.toNat ≤ 4 ∧ c.code ≠ 0 := by cases c <;> decide

theorem inv_raise (h : s.Inv) (c : Cause) (w : CmdWord) : (s.raise c w).Inv where
  session := h.session
  faultRecord := by
    obtain ⟨hle, hne⟩ := cause_code_range c
    exact ⟨hle, iff_of_false hne Bool.noConfusion, Bool.noConfusion⟩
  active := h.active
  scalars := h.scalars
  stores := h.stores

/-- A sample of a session is a word the reference block is built with (20_memory.md R50). -/
theorem isSampleKey_sampleKey {c i : Nat} (hc : c < 2) (hi : i < 4096) :
    isSampleKey .reference (sampleKey c i) = true := by
  have hdiv : sampleKey c i / 65536 = c := by unfold sampleKey; omega
  have hmod : sampleKey c i % 65536 = i := by unfold sampleKey; omega
  rw [isSampleKey, hdiv, hmod]
  exact (Bool.and_eq_true _ _).mpr ⟨decide_eq_true hc, decide_eq_true hi⟩

theorem inv_setBuf (h : s.Inv) {c i : Nat} (hc : c < 2) (hi : i < 4096) (v : Word) :
    (s.setBuf c i v).Inv where
  session := h.session
  faultRecord := h.faultRecord
  active := h.active
  scalars := h.scalars
  stores := by
    obtain ⟨hbuf, hdry, hbufBuilt, hdryBuilt⟩ := h.stores
    exact ⟨Mem.write_wf _ _ _ hbuf, hdry,
      Mem.write_built _ _ _ _ hbufBuilt (isSampleKey_sampleKey hc hi), hdryBuilt⟩

theorem inv_setDry (h : s.Inv) {c i : Nat} (hc : c < 2) (hi : i < 4096) (v : Word) :
    (s.setDry c i v).Inv where
  session := h.session
  faultRecord := h.faultRecord
  active := h.active
  scalars := h.scalars
  stores := by
    obtain ⟨hbuf, hdry, hbufBuilt, hdryBuilt⟩ := h.stores
    exact ⟨hbuf, Mem.write_wf _ _ _ hdry, hbufBuilt,
      Mem.write_built _ _ _ _ hdryBuilt (isSampleKey_sampleKey hc hi)⟩

/-- The mix value in force is in range because its target is (10_state.md R29). -/
theorem inv_settleMix (h : s.Inv) : (settleMix s).Inv where
  session := h.session
  faultRecord := h.faultRecord
  active := h.active
  scalars := by
    obtain ⟨hkind, hamt, hbias, hmixt, -, hpre, hpost⟩ := h.scalars
    exact ⟨hkind, hamt, hbias, hmixt, hmixt, hpre, hpost⟩
  stores := h.stores

/-- Legal arguments of `PREPARE` are in the ranges of the session registers (41_session_ops.md R122). -/
theorem prepareArgsOk_reference_iff (nch maxblk : Nat) (fs : Word) :
    prepareArgsOk .reference nch maxblk fs = true ↔
      (nch = 1 ∨ nch = 2) ∧ (1 ≤ maxblk ∧ maxblk ≤ 4096) ∧
        within Config.fsMin Config.fsMax fs = true := by
  rw [within_iff (by decide) (by decide)]
  simp only [prepareArgsOk, Bool.and_eq_true, Bool.not_eq_true', Bool.or_eq_false_iff,
    decide_eq_true_eq, decide_eq_false_iff_not, and_assoc]
  rw [Params.reference_nchMax, Params.reference_bufcap, Params.reference_fs]
  constructor
  · rintro ⟨h1, h2, h3, h4, hfs⟩
    exact ⟨by omega, by omega, by omega, hfs⟩
  · rintro ⟨hnch, h3, h4, hfs⟩
    exact ⟨by omega, by omega, by omega, by omega, hfs⟩

theorem inv_openSession (h : s.Inv) {nch maxblk : Nat} {fs : Word}
    (hargs : prepareArgsOk .reference nch maxblk fs = true) : (openSession nch maxblk fs s).Inv where
  session := by
    obtain ⟨hnch, ⟨hpos, hcap⟩, hfs⟩ := (prepareArgsOk_reference_iff nch maxblk fs).1 hargs
    have hblk : (BitVec.ofNat 16 maxblk).toNat = maxblk := by
      rw [BitVec.toNat_ofNat]
      omega
    refine ⟨fun _ => ⟨hfs, ?_, ?_, ?_⟩, fun hp => absurd hp (by simp)⟩
    · obtain rfl | rfl := hnch
      · exact .inl rfl
      · exact .inr rfl
    · rwa [openSession_maxblk, hblk]
    · rwa [openSession_maxblk, hblk]
  faultRecord := h.faultRecord
  active := h.active
  scalars := h.scalars
  stores := by
    obtain ⟨-, hdry, -, hdryBuilt⟩ := h.stores
    exact ⟨Mem.wf_nil, hdry, fun e he => absurd he List.not_mem_nil, hdryBuilt⟩

/-! ## The updater keeps the invariant -/

theorem updateProc_scalarsOk (h : s.Inv) (k : Site) : (updateProc .reference k s).ScalarsOk := by
  obtain ⟨-, -, -, -, hmixcur, -, -⟩ := h.scalars
  refine ⟨?_, within_clampF (by decide) (by decide) _, within_clampF (by decide) (by decide) _,
    within_clampF (by decide) (by decide) _, ?_,
    within_f_db2lin (within_clampF (by decide) (by decide) _),
    within_f_db2lin (within_clampF (by decide) (by decide) _)⟩
  · have hkind : kindsel .reference (s.getPar 10).toNat < 9 := kindsel_lt (by decide) _
    change (BitVec.ofNat 4 (kindsel .reference (s.getPar 10).toNat)).toNat ≤ 8
    rw [BitVec.toNat_ofNat]
    omega
  · rwa [updateProc_mixcur]

theorem inv_updateProc (h : s.Inv) (k : Site) : (updateProc .reference k s).Inv where
  session := by
    simpa only [State.SessionOk, updateProc_prepared, updateProc_fs, updateProc_nch,
      updateProc_maxblk] using h.session
  faultRecord := by
    simpa only [State.FaultRecordOk, updateProc_fault, updateProc_cause, updateProc_finfo]
      using h.faultRecord
  active := by
    obtain ⟨hpeak, -, -⟩ := h.active
    refine ⟨(updateProc_peakActive _ k s).trans hpeak, ⟨_, ?_, updateProc_activePrefix_low _ k s⟩,
      ⟨_, ?_, updateProc_activePrefix_high _ k s⟩⟩
    · rw [snapshot_lcq]
      exact min_three_succ_mem _
    · rw [snapshot_hcq]
      exact min_three_succ_mem _
  scalars := updateProc_scalarsOk h k
  stores := by simpa only [State.StoresOk, updateProc_buf, updateProc_dry] using h.stores

/-! ## The block loop keeps the invariant -/

theorem inv_copyDry (h : s.Inv) {c n : Nat} (hc : c < 2) (hn : n ≤ 4096) : (copyDry c n s).Inv :=
  foldl_keeps_mem State.Inv _ _ _ h fun _ _ hi ht =>
    inv_setDry ht hc (Nat.lt_of_lt_of_le (List.mem_range.1 hi) hn) _

theorem inv_sampleStep (h : s.Inv) (P : Params) (k : Site) {c i : Nat} (n : Nat) (m0 : Word)
    (hc : c < 2) (hi : i < 4096) : (sampleStep P k c n m0 s i).Inv :=
  inv_setBuf (inv_setZ h c _) hc hi _

theorem inv_processChannel (h : s.Inv) (P : Params) (k : Site) {c n : Nat} (m0 : Word) (hc : c < 2)
    (hn : n ≤ 4096) : (processChannel P k n m0 s c).Inv :=
  foldl_keeps_mem State.Inv _ _ _ (inv_copyDry h hc hn) fun _ _ hi ht =>
    inv_sampleStep ht P k n m0 hc (Nat.lt_of_lt_of_le (List.mem_range.1 hi) hn)

theorem inv_processBlock (h : s.Inv) (P : Params) (k : Site) {n : Nat} (hnch : s.nch.toNat ≤ 2)
    (hn : n ≤ 4096) : (processBlock P k n s).Inv := by
  unfold processBlock
  split
  · exact h
  · exact inv_settleMix <| foldl_keeps_mem State.Inv _ _ _ h fun _ _ hc ht =>
      inv_processChannel ht P k s.mixcur (Nat.lt_of_lt_of_le (List.mem_range.1 hc) hnch) hn

/-! ## Reset meets the invariant -/

theorem reset_inv : State.reset.Inv where
  session := ⟨Bool.noConfusion, fun _ => ⟨rfl, rfl, rfl⟩⟩
  faultRecord := ⟨by decide, iff_of_true rfl rfl, fun _ => rfl⟩
  active := by decide
  scalars := by decide
  stores := State.reset_stores

/-- The free contents of the stores after a reset are as canonical as the empty ones (log 8). -/
theorem inv_resetBlock (s : State) : (s.resetBlock .reference).Inv where
  session := reset_inv.session
  faultRecord := reset_inv.faultRecord
  active := reset_inv.active
  scalars := reset_inv.scalars
  stores := by
    obtain ⟨hbuf, hbufBuilt⟩ := Mem.ofWords_wf_built .reference (Config.bufAfterReset s.freeIx)
    obtain ⟨hdry, hdryBuilt⟩ := Mem.ofWords_wf_built .reference (Config.dryAfterReset s.freeIx)
    exact ⟨hbuf, hdry, hbufBuilt, hdryBuilt⟩

/-! ## Every step keeps the invariant -/

theorem firstFault_cons_eq_none (holds : Bool) (c : Cause) (l : List (Bool × Cause)) :
    firstFault ((holds, c) :: l) = none ↔ holds = true ∧ firstFault l = none := by
  cases holds <;> simp

/-- In a session the channels and samples are those the block is built with (10_state.md R26). -/
theorem session_bounds (h : s.Inv) (hp : s.prepared = true) : s.nch.toNat ≤ 2 ∧ s.maxblk.toNat ≤ 4096 := by
  obtain ⟨-, hnch, -, hblk⟩ := h.session.1 hp
  refine ⟨?_, hblk⟩
  obtain hnch | hnch := hnch <;> rw [hnch] <;> decide

/-- What a command does when its checks hold keeps the invariant. -/
theorem inv_commandEffect (h : s.Inv) (i : Instr)
    (hchecks : firstFault (commandChecks .reference i s) = none) :
    (commandEffect .reference i s).Inv := by
  cases i with
  | reset => exact inv_resetBlock s
  | prepare nch maxblk fs =>
    have hargs := ((firstFault_cons_eq_none _ _ _).1 hchecks).1
    exact inv_settleMix (inv_updateProc (inv_openSession (inv_draw h) hargs) _)
  | update => exact inv_updateProc (inv_draw h) _
  | setp p v => exact inv_setDirty (inv_setPar h p v) true
  | tcdirty => exact inv_setDirty h false
  | put c ix x =>
    simp only [commandChecks, firstFault_cons_eq_none, sampleIndexOk, Bool.and_eq_true,
      decide_eq_true_eq] at hchecks
    obtain ⟨hp, ⟨hc, hix⟩, -⟩ := hchecks
    obtain ⟨hnch, hblk⟩ := session_bounds h hp
    exact inv_setBuf h (Nat.lt_of_lt_of_le hc hnch) (Nat.lt_of_lt_of_le hix hblk) x
  | process n =>
    simp only [commandChecks, firstFault_cons_eq_none, lengthOk, decide_eq_true_eq] at hchecks
    obtain ⟨hp, hn, -⟩ := hchecks
    obtain ⟨hnch, hblk⟩ := session_bounds h hp
    exact inv_processBlock (inv_updateProc (inv_draw h) _) _ _ (by simpa using hnch)
      (Nat.le_trans hn hblk)
  | nop | getp | rdcoef | rdsr | get => exact h

theorem inv_run (h : s.Inv) (i : Instr) : (run .reference i s).Inv :=
  run_keeps (p := State.Inv) (fun _ r hu => inv_respond hu r) (fun _ c w hu => inv_raise hu c w) h
    (inv_commandEffect h i)

theorem inv_illegalWord (h : s.Inv) (w : CmdWord) : (illegalWord w s).Inv := by
  unfold illegalWord
  split
  · exact inv_respond h _
  · exact inv_raise h _ w

theorem inv_stepIn (h : s.Inv) : (stepIn .reference s).Inv := by
  unfold stepIn
  split
  · exact h
  · exact inv_resetBlock _
  · split
    · exact inv_run (inv_withInp h _) _
    · exact inv_illegalWord (inv_withInp h _) _

end

/-- Settles O56: the reset state is a literal, all its coefficient sets the identity section. -/
theorem resetMeetsInvariant : Obligations.ResetMeetsInvariant := by
  unfold Obligations.ResetMeetsInvariant State.CoefFinite
  exact ⟨reset_inv, by decide⟩

/-- Settles O57: an idle step, the reset input, an illegal word and every command keep the invariant. -/
theorem stepKeepsInvariant : Obligations.StepKeepsInvariant := by
  unfold Obligations.StepKeepsInvariant
  intro s t h hstep
  rw [step_eq_stepIn] at hstep
  cases hstep
  exact inv_stepIn h

end Sys2Proof.Machine
end

section
/-! PROOF. The pieces of the state (10_state.md): their reset values, the parameter store, the system
registers, the activity bits after `UPDATE`, and which commands write each piece. -/

namespace Sys2Proof.Machine

/-! ## Reset values (R36) -/

/-- The state with the block as after reset, whatever the sample stores, the ports and the model's own
counter hold. -/
def State.resetBut (buf dry : Mem) (inp : List HostInput) (resps : List Response) (freeIx : Nat) : State :=
  { State.reset with buf := buf, dry := dry, inp := inp, resps := resps, freeIx := freeIx }

theorem reset_eq_resetBut : State.reset = State.resetBut [] [] [] [] 0 := rfl

theorem resetBlock_eq_resetBut (s : State) : s.resetBlock .reference =
    State.resetBut (s.resetBlock .reference).buf (s.resetBlock .reference).dry s.inp s.resps
      (s.freeIx + 1) := rfl

theorem respond_resetBut (b d : Mem) (l : List HostInput) (rs : List Response) (f : Nat) (r : Response) :
    (State.resetBut b d l rs f).respond r = State.resetBut b d l (rs ++ [r]) f := rfl

theorem exec_reset (s : State) : exec .reset s = .next ((s.resetBlock .reference).respond (.ok 0)) := rfl

theorem step_hardReset {s : State} {rest : List HostInput} (h : s.inp = .hardReset :: rest) :
    step s = .next ((s.withInp rest).resetBlock .reference) := by
  simp only [step, h]

/-- After reset of any kind the block is as after reset. -/
theorem exists_resetBut {s0 s : State} (h : s = State.reset ∨ exec .reset s0 = .next s ∨
    ((∃ rest, s0.inp = .hardReset :: rest) ∧ step s0 = .next s)) :
    ∃ b d l rs f, s = State.resetBut b d l rs f := by
  obtain rfl | h | ⟨⟨rest, hinp⟩, h⟩ := h
  · exact ⟨_, _, _, _, _, reset_eq_resetBut⟩
  · rw [exec_reset, resetBlock_eq_resetBut, respond_resetBut] at h
    cases h
    exact ⟨_, _, _, _, _, rfl⟩
  · rw [step_hardReset hinp, resetBlock_eq_resetBut] at h
    cases h
    exact ⟨_, _, _, _, _, rfl⟩

theorem reset_getCoef : ∀ n < 9, State.reset.getCoef n = ⟨0x3F800000#32, 0, 0, 0, 0⟩ := by decide

theorem reset_getAct : ∀ n < 9, State.reset.getAct n = decide (n = 0 ∨ n = 4 ∨ n = 5) := by decide

theorem reset_getZ : ∀ c < 2, ∀ n < 9, (State.reset.getZ c)[n]? = some ⟨0, 0⟩ := by decide

/-- Settles O9: the three states are the reset state but for stores, ports and counter. -/
theorem resetStateValues : Obligations.ResetStateValues := by
  unfold Obligations.ResetStateValues
  intro s0 s h
  obtain ⟨b, d, l, rs, f, rfl⟩ := exists_resetBut h
  exact ⟨rfl, rfl, rfl, rfl, rfl, rfl, rfl, rfl, rfl, reset_getCoef, reset_getAct, rfl, rfl, rfl, rfl,
    rfl, rfl, rfl, reset_getZ⟩

/-! ## The parameter store (R25) -/

theorem getPar_setPar_same (s : State) {p : Nat} (v : Word) (hp : p < 13) : (s.setPar p v).getPar p = v := by
  unfold State.getPar
  rw [State.setPar_par, Vector.getElem?_setIfInBounds, if_pos rfl, if_pos hp, Option.getD_some]

theorem parIndexOk_reference {p : Nat} (hp : p ≤ 12) : parIndexOk .reference p = true :=
  decide_eq_true (Nat.lt_succ_of_le hp)

theorem exec_setp {s : State} (hs : s.Ready) {p : Nat} (hp : p ≤ 12) (v : Word) :
    exec (.setp p v) s = .next (((s.setPar p v).setDirty true).respond (.ok 0)) :=
  congrArg _ (runCommand_completes _ _ _ _ _ hs (by rw [parIndexOk_reference hp]; rfl))

theorem exec_getp {s : State} (hs : s.Ready) {p : Nat} (hp : p ≤ 12) :
    exec (.getp p) s = .next (s.respond (.ok (s.getPar p))) :=
  congrArg _ (runCommand_completes _ _ _ _ _ hs (by rw [parIndexOk_reference hp]; rfl))

/-- Settles O22: the second command reads the register that the first one wrote. -/
theorem setpThenGetpRoundTrip : Obligations.SetpThenGetpRoundTrip := by
  unfold Obligations.SetpThenGetpRoundTrip
  intro s p v hs hp
  have hready : (((s.setPar p v).setDirty true).respond (.ok 0)).Ready := hs
  refine ⟨_, _, exec_setp hs hp v, exec_getp hready hp, ?_⟩
  have hread : (((s.setPar p v).setDirty true).respond (.ok 0)).getPar p = v :=
    getPar_setPar_same s v (Nat.lt_succ_of_le hp)
  rw [hread]
  exact List.append_assoc _ _ _

/-! ## The system registers (R30) -/

theorem getLsbD_zero_ofBool (b : Bool) : (BitVec.ofBool b).getLsbD 0 = b := by cases b <;> rfl

/-- The fields of a word laid out as `STATUS` is, at the width that the concatenation has. -/
theorem fields_of_status_layout (h : BitVec 24) (c : BitVec 4) (r d f p : BitVec 1) :
    (h ++ c ++ r ++ d ++ f ++ p).getLsbD 0 = p.getLsbD 0 ∧
      (h ++ c ++ r ++ d ++ f ++ p).getLsbD 1 = f.getLsbD 0 ∧
      (h ++ c ++ r ++ d ++ f ++ p).getLsbD 2 = d.getLsbD 0 ∧
      (h ++ c ++ r ++ d ++ f ++ p).getLsbD 3 = r.getLsbD 0 ∧
      (h ++ c ++ r ++ d ++ f ++ p).extractLsb' 4 4 = c ∧
      (h ++ c ++ r ++ d ++ f ++ p).extractLsb' 8 24 = h := by
  simp only [BitVec.getLsbD_append, BitVec.extractLsb'_append_eq_ite]
  simp

theorem statusWord_fields (s : State) :
    (statusWord s).getLsbD 0 = s.prepared ∧ (statusWord s).getLsbD 1 = s.fault ∧
      (statusWord s).getLsbD 2 = s.dirty ∧ (statusWord s).getLsbD 3 = false ∧
      (statusWord s).extractLsb' 4 4 = s.cause ∧ (statusWord s).extractLsb' 8 24 = 0 := by
  have h := fields_of_status_layout 0#24 s.cause 0#1 (BitVec.ofBool s.dirty) (BitVec.ofBool s.fault)
    (BitVec.ofBool s.prepared)
  rw [getLsbD_zero_ofBool, getLsbD_zero_ofBool, getLsbD_zero_ofBool] at h
  exact h

theorem finfoHi_append_finfoLo (s : State) : finfoHi s ++ finfoLo s = s.finfo :=
  (BitVec.extractLsb'_append_extractLsb'_eq_extractLsb' rfl).trans BitVec.extractLsb'_eq_self

/-- The fields of a word laid out as `GEOM` is. -/
theorem fields_of_geom_layout (m : BitVec 16) (z : BitVec 14) (n : BitVec 2) :
    (m ++ z ++ n).extractLsb' 0 2 = n ∧ (m ++ z ++ n).extractLsb' 2 14 = z ∧
      (m ++ z ++ n).extractLsb' 16 16 = m := by
  simp only [BitVec.extractLsb'_append_eq_ite]
  simp

theorem geomWord_fields (s : State) :
    (geomWord s).extractLsb' 0 2 = s.nch ∧ (geomWord s).extractLsb' 2 14 = 0 ∧
      (geomWord s).extractLsb' 16 16 = s.maxblk :=
  fields_of_geom_layout s.maxblk 0#14 s.nch

/-- Bit n of nine one-bit fields is the n-th of them. -/
theorem getLsbD_of_nine_bits (b : Nat → BitVec 1) (n : Nat) (hn : n < 9) :
    (b 8 ++ b 7 ++ b 6 ++ b 5 ++ b 4 ++ b 3 ++ b 2 ++ b 1 ++ b 0).getLsbD n = (b n).getLsbD 0 := by
  interval_cases n <;> simp only [BitVec.getLsbD_append] <;> simp

theorem getLsbD_actBits (v : Vector Bool 9) (n : Nat) (hn : n < 9) :
    (actBits v).getLsbD n = v[n]?.getD false := by
  have h := getLsbD_of_nine_bits (fun j => BitVec.ofBool (v[j]?.getD false)) n hn
  rw [getLsbD_zero_ofBool] at h
  exact h

/-- The fields of a word laid out as `ACTIVE` is. -/
theorem fields_of_active_layout (h : BitVec 16) (k : BitVec 4) (z : BitVec 3) (a : BitVec 9) :
    (∀ n < 9, (h ++ k ++ z ++ a).getLsbD n = a.getLsbD n) ∧ (h ++ k ++ z ++ a).extractLsb' 9 3 = z ∧
      (h ++ k ++ z ++ a).extractLsb' 12 4 = k ∧ (h ++ k ++ z ++ a).extractLsb' 16 16 = h := by
  refine ⟨fun n hn => by rw [BitVec.getLsbD_append, if_pos hn], ?_⟩
  simp only [BitVec.extractLsb'_append_eq_ite]
  simp

theorem activeWord_fields (s : State) :
    (∀ n < 9, (activeWord s).getLsbD n = s.getAct n) ∧ (activeWord s).extractLsb' 9 3 = 0 ∧
      (activeWord s).extractLsb' 12 4 = s.kindr ∧ (activeWord s).extractLsb' 16 16 = 0 := by
  obtain ⟨hbits, hfields⟩ := fields_of_active_layout 0#16 s.kindr 0#3 (actBits s.act)
  exact ⟨fun n hn => (hbits n hn).trans (getLsbD_actBits s.act n hn), hfields⟩

/-- Settles O26: the packed registers by their layouts, the others as the words they show. -/
theorem systemRegisterFields : Obligations.SystemRegisterFields := by
  unfold Obligations.SystemRegisterFields
  intro s
  exact ⟨statusWord_fields s, finfoHi_append_finfoLo s, rfl, geomWord_fields s, activeWord_fields s,
    rfl, rfl, rfl, rfl, rfl, rfl, rfl⟩

/-! ## The active sections after `UPDATE` (R23, R32) -/

theorem exec_update {s : State} (hs : s.ReadyInSession) :
    exec .update s = .next ((updateProc .reference s.site s.draw).respond (.ok 0)) :=
  congrArg _ (runCommand_completes _ _ _ _ _ hs.1 (by rw [hs.2]; rfl))

theorem countP_range_four_lt : ∀ n ≤ 4, (List.range 4).countP (fun j => decide (j < n)) = n := by decide

/-- A cascade whose first n sections are active has n active sections. -/
theorem countP_getAct_of_activePrefix {s : State} {base n : Nat} (h : s.ActivePrefix base n) (hn : n ≤ 4) :
    (List.range 4).countP (fun j => s.getAct (base + j)) = n := by
  calc (List.range 4).countP (fun j => s.getAct (base + j))
      = (List.range 4).countP (fun j => decide (j < n)) :=
        List.countP_congr fun j hj => iff_of_eq (congrArg (· = true) (h j hj))
    _ = n := countP_range_four_lt n hn

/-- The bit of a section in the terms of R23: the 12 dB an octave up to and with it fit in the slope. -/
theorem getAct_of_activePrefix {s : State} {base m : Nat} (h : s.ActivePrefix base (m + 1)) {j : Nat}
    (hj : j < 4) : s.getAct (base + j) = decide (12 * (j + 1) ≤ 12 * (m + 1)) := by
  rw [h j (List.mem_range.2 hj)]
  exact decide_eq_decide.2 (by omega)

/-- Settles O30: in each cascade the updater activates the first sections, one more than its slope index. -/
theorem slopeOrderCountsActiveSections : Obligations.SlopeOrderCountsActiveSections := by
  unfold Obligations.SlopeOrderCountsActiveSections
  intro s t hs h
  rw [exec_update hs] at h
  cases h
  generalize ht : (updateProc .reference s.site s.draw).respond (.ok 0) = t
  have hlow : t.ActivePrefix 0 (min (s.getPar 1).toNat 3 + 1) := by
    rw [← ht, ← snapshot_lcq .reference]
    exact updateProc_activePrefix_low .reference s.site s.draw
  have hhigh : t.ActivePrefix 5 (min (s.getPar 6).toNat 3 + 1) := by
    rw [← ht, ← snapshot_hcq .reference]
    exact updateProc_activePrefix_high .reference s.site s.draw
  refine ⟨fun j hj => ?_, fun j hj => getAct_of_activePrefix hhigh hj, ?_,
    countP_getAct_of_activePrefix hhigh (by omega)⟩
  · simpa only [Nat.zero_add] using getAct_of_activePrefix hlow hj
  · simpa only [Nat.zero_add] using countP_getAct_of_activePrefix hlow (by omega)

/-! ## The writers of each piece of state (R25 to R34) -/

section
variable (P : Params) (i : Instr) (s : State)

theorem run_par : (i = .reset ∨ ∃ p v, i = .setp p v) ∨ (run P i s).par = s.par := by
  cases i with
  | reset => exact .inl (.inl rfl)
  | setp p v => exact .inl (.inr ⟨p, v, rfl⟩)
  | _ => exact .inr (run_view State.par (fun _ _ => rfl) (fun _ _ _ => rfl) (by simp [commandEffect]))

/-- The four session registers. -/
def State.sessionRegs (s : State) : Bool × Word × BitVec 2 × BitVec 16 :=
  (s.prepared, s.fs, s.nch, s.maxblk)

theorem run_sessionRegs : (i = .reset ∨ ∃ a b f, i = .prepare a b f) ∨
    (run P i s).sessionRegs = s.sessionRegs := by
  cases i with
  | reset => exact .inl (.inl rfl)
  | prepare nch maxblk fs => exact .inl (.inr ⟨nch, maxblk, fs, rfl⟩)
  | _ =>
    exact .inr (run_view State.sessionRegs (fun _ _ => rfl) (fun _ _ _ => rfl)
      (by simp [commandEffect, State.sessionRegs]))

theorem run_binding : (i = .reset ∨ i = .update ∨ (∃ n, i = .process n) ∨ ∃ a b f, i = .prepare a b f) ∨
    s.SameBinding (run P i s) := by
  cases i with
  | reset => exact .inl (.inl rfl)
  | update => exact .inl (.inr (.inl rfl))
  | process n => exact .inl (.inr (.inr (.inl ⟨n, rfl⟩)))
  | prepare nch maxblk fs => exact .inl (.inr (.inr (.inr ⟨nch, maxblk, fs, rfl⟩)))
  | _ =>
    exact .inr (run_keeps (p := s.SameBinding) (fun _ _ h => h) (fun _ _ _ h => h)
      ⟨rfl, rfl, rfl, rfl, rfl, rfl, rfl, rfl⟩ fun _ => ⟨rfl, rfl, rfl, rfl, rfl, rfl, rfl, rfl⟩)

theorem run_z_mixcur : (i = .reset ∨ (∃ n, i = .process n) ∨ ∃ a b f, i = .prepare a b f) ∨
    ((run P i s).z = s.z ∧ (run P i s).mixcur = s.mixcur) := by
  cases i with
  | reset => exact .inl (.inl rfl)
  | process n => exact .inl (.inr (.inl ⟨n, rfl⟩))
  | prepare nch maxblk fs => exact .inl (.inr (.inr ⟨nch, maxblk, fs, rfl⟩))
  | _ =>
    exact .inr ⟨run_view State.z (fun _ _ => rfl) (fun _ _ _ => rfl) (by simp [commandEffect]),
      run_view State.mixcur (fun _ _ => rfl) (fun _ _ _ => rfl) (by simp [commandEffect])⟩

theorem run_buf : (i = .reset ∨ (∃ n, i = .process n) ∨ (∃ a b f, i = .prepare a b f) ∨
    ∃ c n x, i = .put c n x) ∨ (run P i s).buf = s.buf := by
  cases i with
  | reset => exact .inl (.inl rfl)
  | process n => exact .inl (.inr (.inl ⟨n, rfl⟩))
  | prepare nch maxblk fs => exact .inl (.inr (.inr (.inl ⟨nch, maxblk, fs, rfl⟩)))
  | put c ix x => exact .inl (.inr (.inr (.inr ⟨c, ix, x, rfl⟩)))
  | _ => exact .inr (run_view State.buf (fun _ _ => rfl) (fun _ _ _ => rfl) (by simp [commandEffect]))

theorem run_dry : (i = .reset ∨ ∃ n, i = .process n) ∨ (run P i s).dry = s.dry := by
  cases i with
  | reset => exact .inl (.inl rfl)
  | process n => exact .inl (.inr ⟨n, rfl⟩)
  | _ => exact .inr (run_view State.dry (fun _ _ => rfl) (fun _ _ _ => rfl) (by simp [commandEffect]))

/-- `DIRTY` once set is cleared by `TCDIRTY` alone: a reset sets it too (R27, R36). -/
theorem run_dirty_stays_set : i = .tcdirty ∨ (s.dirty = true → (run P i s).dirty = true) := by
  cases i with
  | tcdirty => exact .inl rfl
  | _ =>
    exact .inr fun hs => run_keeps (p := (State.dirty · = true)) (fun _ _ h => h) (fun _ _ _ h => h) hs
      fun _ => by simp [commandEffect, hs]

theorem run_dirty_stays_clear : (i = .reset ∨ ∃ p v, i = .setp p v) ∨
    (s.dirty = false → (run P i s).dirty = false) := by
  cases i with
  | reset => exact .inl (.inl rfl)
  | setp p v => exact .inl (.inr ⟨p, v, rfl⟩)
  | _ =>
    exact .inr fun hs => run_keeps (p := (State.dirty · = false)) (fun _ _ h => h) (fun _ _ _ h => h) hs
      fun _ => by simp [commandEffect, hs]

/-- A reset is the only way out of a fault (60_exceptions.md R232). -/
theorem run_fault_stays_set : i = .reset ∨ (s.fault = true → (run P i s).fault = true) := by
  cases i with
  | reset => exact .inl rfl
  | _ =>
    exact .inr fun hs => run_keeps (p := (State.fault · = true)) (fun _ _ h => h) (fun _ _ _ _ => rfl) hs
      fun _ => by simp [commandEffect, hs]

end

/-- Settles O59: each clause is its piece's own lemma, which says of every command that it is a named
writer or keeps the piece. -/
theorem onlyNamedCommandsWrite : Obligations.OnlyNamedCommandsWrite := by
  unfold Obligations.OnlyNamedCommandsWrite
  intro i s t h
  rw [exec_eq_run] at h
  cases h
  refine ⟨(run_par .reference i s).resolve_right, (run_sessionRegs .reference i s).resolve_right,
    (run_binding .reference i s).resolve_right, fun h => (run_z_mixcur .reference i s).resolve_right ?_,
    (run_buf .reference i s).resolve_right, (run_dry .reference i s).resolve_right, fun hs ht => ?_,
    fun hs ht => ?_, fun hs ht => ?_, (answersOnce_run .reference i s).1⟩
  · exact fun ⟨hz, hmixcur⟩ => h.elim (· hz) (· hmixcur)
  · exact (run_dirty_stays_set .reference i s).resolve_right fun hkeep => by simp [hkeep hs] at ht
  · exact (run_dirty_stays_clear .reference i s).resolve_right fun hkeep => by simp [hkeep hs] at ht
  · exact (run_fault_stays_set .reference i s).resolve_right fun hkeep => by simp [hkeep hs] at ht

end Sys2Proof.Machine
end

section
/-! PROOF. The transport of a command word (20_memory.md R52): a word is carried by exactly one list of
bytes, the one `bytesOfCommand` gives. -/

namespace Sys2Proof

/-! ## The bytes of a command word (R52) -/

theorem commandOfBytes_eq_some_iff {bs : List (BitVec 8)} {w : CmdWord} :
    commandOfBytes bs = some w ↔ ∃ b0 b1 b2 b3 b4 b5 b6 b7 : BitVec 8,
      bs = [b0, b1, b2, b3, b4, b5, b6, b7] ∧ w = b7 ++ b6 ++ b5 ++ b4 ++ b3 ++ b2 ++ b1 ++ b0 := by
  constructor
  · intro h
    unfold commandOfBytes at h
    split at h
    case h_1 => exact ⟨_, _, _, _, _, _, _, _, rfl, (Option.some.inj h).symm⟩
    case h_2 => cases h
  · rintro ⟨b0, b1, b2, b3, b4, b5, b6, b7, rfl, rfl⟩
    rfl

theorem length_bytesOfCommand (w : CmdWord) : (bytesOfCommand w).length = 8 := by
  simp [bytesOfCommand]

theorem getElem?_bytesOfCommand (w : CmdWord) {i : Nat} (hi : i < 8) :
    (bytesOfCommand w)[i]? = some (w.extractLsb' (8 * i) 8) := by
  simp [bytesOfCommand, hi]

/-- The bytes of eight bytes joined are those eight, the last operand of the concatenation first. -/
theorem bytesOfCommand_append (b0 b1 b2 b3 b4 b5 b6 b7 : BitVec 8) :
    bytesOfCommand (b7 ++ b6 ++ b5 ++ b4 ++ b3 ++ b2 ++ b1 ++ b0) =
      [b0, b1, b2, b3, b4, b5, b6, b7] := by
  simp only [bytesOfCommand, List.range_eq_range', List.range', List.map_cons, List.map_nil,
    BitVec.extractLsb'_append_eq_ite]
  simp

/-- A byte joins the bits just above it. -/
theorem extractLsb'_append_byte (w : CmdWord) (k n : Nat) :
    w.extractLsb' (8 * (k + 1)) n ++ w.extractLsb' (8 * k) 8 = w.extractLsb' (8 * k) (n + 8) :=
  BitVec.extractLsb'_append_extractLsb'_eq_extractLsb' (Nat.mul_succ 8 k)

/-- The bytes of a word join to the word, from the most significant byte down. -/
theorem commandOfBytes_bytesOfCommand (w : CmdWord) : commandOfBytes (bytesOfCommand w) = some w := by
  refine commandOfBytes_eq_some_iff.2 ⟨_, _, _, _, _, _, _, _, rfl, ?_⟩
  rw [extractLsb'_append_byte w 6, extractLsb'_append_byte w 5, extractLsb'_append_byte w 4,
    extractLsb'_append_byte w 3, extractLsb'_append_byte w 2, extractLsb'_append_byte w 1,
    extractLsb'_append_byte w 0]
  exact BitVec.extractLsb'_eq_self.symm

theorem commandOfBytes_eq_some_iff_eq_bytesOfCommand {bs : List (BitVec 8)} {w : CmdWord} :
    commandOfBytes bs = some w ↔ bs = bytesOfCommand w := by
  constructor
  · intro h
    obtain ⟨b0, b1, b2, b3, b4, b5, b6, b7, rfl, rfl⟩ := commandOfBytes_eq_some_iff.1 h
    exact (bytesOfCommand_append b0 b1 b2 b3 b4 b5 b6 b7).symm
  · rintro rfl
    exact commandOfBytes_bytesOfCommand w

theorem eq_bytesOfCommand_iff {bs : List (BitVec 8)} {w : CmdWord} :
    bs = bytesOfCommand w ↔ bs.length = 8 ∧ ∀ i < 8, bs[i]? = some (w.extractLsb' (8 * i) 8) := by
  constructor
  · rintro rfl
    exact ⟨length_bytesOfCommand w, fun _ => getElem?_bytesOfCommand w⟩
  · rintro ⟨hlen, hbyte⟩
    refine List.ext_getElem?' fun i hi => ?_
    rw [hlen, length_bytesOfCommand, max_self] at hi
    rw [hbyte i hi, getElem?_bytesOfCommand w hi]

/-- Settles O5: both sides say that the list is the word's own eight bytes. -/
theorem transportBytesCarryWord : Obligations.TransportBytesCarryWord := by
  unfold Obligations.TransportBytesCarryWord
  exact ⟨fun _ _ => commandOfBytes_eq_some_iff_eq_bytesOfCommand.trans eq_bytesOfCommand_iff,
    commandOfBytes_bytesOfCommand⟩

end Sys2Proof
end

section
/-! PROOF. Encoding and decoding (30_encoding.md R70 to R75): the decoder answers a command exactly on the
word that encodes it, which gives both round trips at once, and the rows of R74 are what the opcode and
the reserved fields of R73 ask for. -/

namespace Sys2Proof

/-! ## The fields of a word (R70) -/

@[simp] theorem aField_packCommand (op a : BitVec 8) (n : BitVec 16) (d : Word) :
    aField (packCommand op a n d) = a := by
  rw [aField, packCommand, BitVec.extractLsb'_append_eq_of_le (by decide),
    BitVec.extractLsb'_append_eq_of_le (by decide)]
  exact BitVec.extractLsb'_append_eq_right

@[simp] theorem nField_packCommand (op a : BitVec 8) (n : BitVec 16) (d : Word) :
    nField (packCommand op a n d) = n := by
  rw [nField, packCommand, BitVec.extractLsb'_append_eq_of_le (by decide)]
  exact BitVec.extractLsb'_append_eq_right

@[simp] theorem dField_packCommand (op a : BitVec 8) (n : BitVec 16) (d : Word) :
    dField (packCommand op a n d) = d :=
  BitVec.extractLsb'_append_eq_right

/-- The four fields cover the word: no bit lies outside them. -/
theorem packCommand_fields (w : CmdWord) :
    packCommand (opField w) (aField w) (nField w) (dField w) = w := by
  have hA : opField w ++ aField w = w.extractLsb' 48 16 :=
    BitVec.extractLsb'_append_extractLsb'_eq_extractLsb' rfl
  have hN : w.extractLsb' 48 16 ++ nField w = w.extractLsb' 32 32 :=
    BitVec.extractLsb'_append_extractLsb'_eq_extractLsb' rfl
  have hD : w.extractLsb' 32 32 ++ dField w = w.extractLsb' 0 64 :=
    BitVec.extractLsb'_append_extractLsb'_eq_extractLsb' rfl
  rw [packCommand, hA, hN, hD]
  exact BitVec.extractLsb'_eq_self

theorem packCommand_eq_iff {op a : BitVec 8} {n : BitVec 16} {d : Word} {w : CmdWord} :
    packCommand op a n d = w ↔ op = opField w ∧ a = aField w ∧ n = nField w ∧ d = dField w := by
  constructor
  · rintro rfl
    simp [Laws.opField_packCommand]
  · rintro ⟨rfl, rfl, rfl, rfl⟩
    exact packCommand_fields w

/-- A word is a command's encoding when each of its fields is the command's. -/
theorem encode_eq_iff {i : Instr} {w : CmdWord} :
    encode i = w ↔ i.opcode.bits = opField w ∧ i.fields = (aField w, nField w, dField w) := by
  rw [encode, packCommand_eq_iff, Prod.ext_iff, Prod.ext_iff]

/-! ## The opcode map (R73) -/

/-- `OP` names at most one opcode, and every opcode is in the map. -/
theorem ofBits_eq_some_iff {b : BitVec 8} {o : Opcode} : Opcode.ofBits b = some o ↔ o.bits = b := by
  constructor
  · intro h
    simpa using List.find?_some h
  · rintro rfl
    cases o <;> rfl

theorem decode_eq_ok_iff_decodeFields {w : CmdWord} {i : Instr} :
    decode w = .ok i ↔
      ∃ o : Opcode, o.bits = opField w ∧ decodeFields o (aField w) (nField w) (dField w) = .ok i := by
  simp only [← ofBits_eq_some_iff]
  unfold decode
  cases Opcode.ofBits (opField w) <;> simp

/-! ## The operands in their fields -/

@[simp] theorem fitsA_toNat (a : BitVec 8) : fitsA a.toNat = true := decide_eq_true a.isLt

@[simp] theorem fitsN_toNat (n : BitVec 16) : fitsN n.toNat = true := decide_eq_true n.isLt

theorem toNat_ofNat_of_fitsA {a : Nat} (h : fitsA a = true) : (BitVec.ofNat 8 a).toNat = a :=
  Nat.mod_eq_of_lt (of_decide_eq_true h)

theorem toNat_ofNat_of_fitsN {n : Nat} (h : fitsN n = true) : (BitVec.ofNat 16 n).toNat = n :=
  Nat.mod_eq_of_lt (of_decide_eq_true h)

@[simp] theorem whenZero_eq_ok_iff {b : Bool} {i j : Instr} :
    whenZero b i = .ok j ↔ b = true ∧ i = j := by
  cases b <;> simp [whenZero]

/-- The decoder drops no field: an operand field is an operand, a reserved one was checked to be 0
(R75). -/
theorem fields_of_decodeFields {o : Opcode} {a : BitVec 8} {n : BitVec 16} {d : Word} {i : Instr}
    (h : decodeFields o a n d = .ok i) : i.wf = true ∧ i.opcode = o ∧ i.fields = (a, n, d) := by
  cases o with
  | nop | reset | update | tcdirty =>
    simp only [decodeFields, whenZero_eq_ok_iff, Bool.and_eq_true, beq_iff_eq] at h
    obtain ⟨⟨⟨rfl, rfl⟩, rfl⟩, rfl⟩ := h
    exact ⟨rfl, rfl, rfl⟩
  | prepare | put =>
    cases h
    simp [Instr.wf, Instr.opcode, Instr.fields]
  | setp | rdcoef | get =>
    simp only [decodeFields, whenZero_eq_ok_iff, beq_iff_eq] at h
    obtain ⟨rfl, rfl⟩ := h
    simp [Instr.wf, Instr.opcode, Instr.fields]
  | getp | rdsr | process =>
    simp only [decodeFields, whenZero_eq_ok_iff, Bool.and_eq_true, beq_iff_eq] at h
    obtain ⟨⟨rfl, rfl⟩, rfl⟩ := h
    simp [Instr.wf, Instr.opcode, Instr.fields]

/-- The fields of a command whose operands fit them decode to it. -/
theorem decodeFields_fields {i : Instr} (h : i.wf = true) :
    decodeFields i.opcode i.fields.1 i.fields.2.1 i.fields.2.2 = .ok i := by
  cases i with
  | nop | reset | update | tcdirty => rfl
  | setp p _ | getp p | rdsr p =>
    simp [decodeFields, Instr.opcode, Instr.fields, toNat_ofNat_of_fitsA h]
  | process n => simp [decodeFields, Instr.opcode, Instr.fields, toNat_ofNat_of_fitsN h]
  | prepare a n _ | put a n _ | rdcoef a n | get a n =>
    obtain ⟨ha, hn⟩ := Bool.and_eq_true_iff.1 h
    simp [decodeFields, Instr.opcode, Instr.fields, toNat_ofNat_of_fitsA ha, toNat_ofNat_of_fitsN hn]

theorem decodeFields_eq_ok_iff {o : Opcode} {a : BitVec 8} {n : BitVec 16} {d : Word} {i : Instr} :
    decodeFields o a n d = .ok i ↔ i.wf = true ∧ i.opcode = o ∧ i.fields = (a, n, d) := by
  constructor
  · exact fields_of_decodeFields
  · rintro ⟨hwf, rfl, hfields⟩
    have h := decodeFields_fields hwf
    rwa [hfields] at h

/-! ## The round trips -/

/-- Decoding gives a command exactly on the word of that command, when its operands fit their fields. -/
theorem decode_eq_ok_iff {w : CmdWord} {i : Instr} :
    decode w = .ok i ↔ i.wf = true ∧ encode i = w := by
  rw [decode_eq_ok_iff_decodeFields, encode_eq_iff]
  constructor
  · rintro ⟨o, hop, h⟩
    obtain ⟨hwf, rfl, hfields⟩ := decodeFields_eq_ok_iff.1 h
    exact ⟨hwf, hop, hfields⟩
  · rintro ⟨hwf, hop, hfields⟩
    exact ⟨i.opcode, hop, decodeFields_eq_ok_iff.2 ⟨hwf, rfl, hfields⟩⟩

/-- Settles O2: `decode_eq_ok_iff` at the word of the command. -/
theorem decodeOfEncode : Obligations.DecodeOfEncode := by
  unfold Obligations.DecodeOfEncode
  exact fun _ hwf => decode_eq_ok_iff.2 ⟨hwf, rfl⟩

/-- Settles O3: `decode_eq_ok_iff` from left to right. -/
theorem encodeOfDecode : Obligations.EncodeOfDecode := by
  unfold Obligations.EncodeOfDecode
  exact fun _ _ => decode_eq_ok_iff.1

/-! ## The rows (R74) -/

/-- The bits of the fields `A`, `N`, `D` that are reserved for the opcode (R73). -/
def Opcode.reservedBits : Opcode → BitVec 8 × BitVec 16 × Word
  | .nop | .reset | .update | .tcdirty => (.allOnes 8, .allOnes 16, .allOnes 32)
  | .prepare | .put => (0, 0, 0)
  | .setp => (0, .allOnes 16, 0)
  | .getp | .rdsr => (0, .allOnes 16, .allOnes 32)
  | .rdcoef | .get => (0, 0, .allOnes 32)
  | .process => (.allOnes 8, 0, .allOnes 32)

/-- No reserved bit of these fields is set. -/
def Opcode.ReservedClear (o : Opcode) (a : BitVec 8) (n : BitVec 16) (d : Word) : Prop :=
  a &&& o.reservedBits.1 = 0 ∧ n &&& o.reservedBits.2.1 = 0 ∧ d &&& o.reservedBits.2.2 = 0

theorem row_eq (o : Opcode) :
    o.row = ⟨packCommand o.bits 0 0 0,
      packCommand (.allOnes 8) o.reservedBits.1 o.reservedBits.2.1 o.reservedBits.2.2⟩ := by
  cases o <;> rfl

section
variable (w m : CmdWord)

theorem opField_and : opField (w &&& m) = opField w &&& opField m := BitVec.extractLsb'_and
theorem aField_and : aField (w &&& m) = aField w &&& aField m := BitVec.extractLsb'_and
theorem nField_and : nField (w &&& m) = nField w &&& nField m := BitVec.extractLsb'_and
theorem dField_and : dField (w &&& m) = dField w &&& dField m := BitVec.extractLsb'_and

end

/-- A word under a mask is masked field by field. -/
theorem and_packCommand (w : CmdWord) (op a : BitVec 8) (n : BitVec 16) (d : Word) :
    w &&& packCommand op a n d =
      packCommand (opField w &&& op) (aField w &&& a) (nField w &&& n) (dField w &&& d) := by
  refine (packCommand_eq_iff.2 ⟨?_, ?_, ?_, ?_⟩).symm
  · rw [opField_and, Laws.opField_packCommand]
  · rw [aField_and, aField_packCommand]
  · rw [nField_and, nField_packCommand]
  · rw [dField_and, dField_packCommand]

theorem row_selects_iff {o : Opcode} {w : CmdWord} :
    o.row.selects w = true ↔
      o.bits = opField w ∧ o.ReservedClear (aField w) (nField w) (dField w) := by
  rw [Row.selects, row_eq, beq_iff_eq, and_packCommand, packCommand_eq_iff, BitVec.and_allOnes,
    Laws.opField_packCommand, aField_packCommand, nField_packCommand, dField_packCommand,
    Opcode.ReservedClear, eq_comm]

/-- The decoder accepts the fields of an opcode exactly when no reserved bit is set (R75). -/
theorem exists_decodeFields_eq_ok_iff {o : Opcode} {a : BitVec 8} {n : BitVec 16} {d : Word} :
    (∃ i, decodeFields o a n d = .ok i) ↔ o.ReservedClear a n d := by
  unfold Opcode.ReservedClear
  cases o <;> simp [decodeFields, Opcode.reservedBits, and_assoc, -BitVec.reduceAllOnes]

/-- Both sides ask for the opcode in `OP` and for clear reserved fields. -/
theorem exists_decode_opcode_iff_selects (w : CmdWord) (o : Opcode) :
    (∃ i, decode w = .ok i ∧ i.opcode = o) ↔ o.row.selects w = true := by
  rw [row_selects_iff, ← exists_decodeFields_eq_ok_iff]
  constructor
  · rintro ⟨i, h, rfl⟩
    obtain ⟨o, hop, hi⟩ := decode_eq_ok_iff_decodeFields.1 h
    obtain ⟨-, rfl, -⟩ := fields_of_decodeFields hi
    exact ⟨hop, i, hi⟩
  · rintro ⟨hop, i, hi⟩
    obtain ⟨-, hopcode, -⟩ := fields_of_decodeFields hi
    exact ⟨i, decode_eq_ok_iff_decodeFields.2 ⟨o, hop, hi⟩, hopcode⟩

/-- A selected row's opcode is read off `OP`, so there is one at most. -/
theorem opcode_unique_of_selects {w : CmdWord} {o o' : Opcode} (h : o.row.selects w = true)
    (h' : o'.row.selects w = true) : o = o' := by
  obtain ⟨hop, -⟩ := row_selects_iff.1 h
  obtain ⟨hop', -⟩ := row_selects_iff.1 h'
  exact Option.some.inj ((ofBits_eq_some_iff.2 hop).symm.trans (ofBits_eq_some_iff.2 hop'))

/-- A word is illegal exactly when it selects no row. -/
theorem selects_none_iff_decode_error (w : CmdWord) :
    (∀ o : Opcode, o.row.selects w = false) ↔ ∃ r, decode w = .error r := by
  simp only [← Bool.not_eq_true, ← exists_decode_opcode_iff_selects]
  cases decode w <;> simp

/-- Settles O4: the rows of R74 are the model's, and each clause is its own lemma. -/
theorem decodeAgreesWithTable : Obligations.DecodeAgreesWithTable := by
  unfold Obligations.DecodeAgreesWithTable
  exact ⟨rfl, exists_decode_opcode_iff_selects, fun _ _ _ => opcode_unique_of_selects,
    selects_none_iff_decode_error⟩

/-- Settles O1: the decoder evaluated on the nine words. -/
theorem workedEncodingsDecode : Obligations.WorkedEncodingsDecode := by
  unfold Obligations.WorkedEncodingsDecode
  exact ⟨rfl, rfl, rfl, rfl, rfl, rfl, rfl, rfl, rfl⟩

/-! ## A step on a legal word (R77) -/

/-- Settles O6: a step is `runWord` on the presented word, and a decoded command is well-formed. -/
theorem stepRunsDecodedCommand : Obligations.StepRunsDecodedCommand := by
  unfold Obligations.StepRunsDecodedCommand
  intro s w rest i hinp hdecode
  obtain ⟨hwf, -⟩ := decode_eq_ok_iff.1 hdecode
  refine ⟨hwf, ?_⟩
  rw [Machine.step_eq_stepIn, Machine.stepIn_of_decode_ok .reference hinp hdecode, Machine.exec_eq_run]

end Sys2Proof
end

section
/-! PROOF. Rounding (40_numerics.md R90 to R92): a finite word is a significand of at most 24 bits times a
power of two, `roundMag` keeps the significand nearest to the real number, and no finite word is nearer. -/

namespace Sys2Proof.Machine

/-! ## A word as sign, exponent shift and significand (R90) -/

/-- `u * 2 ^ s` is the normal form of a magnitude: 24 significant bits, fewer at the least exponent only. -/
abbrev Normal (s u : Nat) : Prop := u ≤ 2 ^ 24 ∧ (s = 0 ∨ 2 ^ 23 ≤ u)

/-- A significand of 2^24 carries into the exponent, as the pattern does. -/
theorem mag_withSign (neg : Bool) {s u : Nat} (h : Normal s u) (hlt : s * 2 ^ 23 + u < 2 ^ 31) :
    mag (withSign neg (s * 2 ^ 23 + u)) = u * 2 ^ s := by
  obtain ⟨hle, hge⟩ := h
  simp only [mag, expo_withSign _ _ hlt, frac_withSign _ _ hlt]
  rcases Nat.lt_or_ge u (2 ^ 23) with hsub | hnormal
  · obtain rfl : s = 0 := by omega
    rw [if_pos (by omega)]
    omega
  · rcases Nat.lt_or_ge u (2 ^ 24) with hu | hu
    · have he : (s * 2 ^ 23 + u) / 2 ^ 23 = s + 1 := by omega
      have hf : 2 ^ 23 + (s * 2 ^ 23 + u) % 2 ^ 23 = u := by omega
      rw [he, hf, if_neg (Nat.succ_ne_zero s), Nat.add_sub_cancel]
    · obtain rfl : u = 2 ^ 24 := by omega
      have he : (s * 2 ^ 23 + 2 ^ 24) / 2 ^ 23 = s + 2 := by omega
      have hf : 2 ^ 23 + (s * 2 ^ 23 + 2 ^ 24) % 2 ^ 23 = 2 ^ 23 := by omega
      rw [he, hf, if_neg (by omega), show s + 2 - 1 = s + 1 by omega, pow_succ]
      ring

theorem eq_withSign (a : Word) : a = withSign (signBit a) (a.toNat % 2 ^ 31) := by
  have hlt : a.toNat % 2 ^ 31 < 2 ^ 31 := by omega
  apply BitVec.eq_of_toNat_eq
  rw [withSign_toNat _ _ hlt, signBit_eq]
  have := a.isLt
  simp only [decide_eq_true_eq]
  split <;> omega

theorem isFinite_withSign_iff (neg : Bool) {m : Nat} (h : m ≤ 0x7F800000) :
    isFinite (withSign neg m) = true ↔ m < 0x7F800000 := by
  rw [isFinite, expo_withSign _ _ (by omega), bne_iff_ne]
  omega

theorem exists_normal_of_isFinite {a : Word} (ha : isFinite a = true) :
    ∃ s u, Normal s u ∧ u < 2 ^ 24 ∧ s ≤ 253 ∧ a = withSign (signBit a) (s * 2 ^ 23 + u) ∧
      mag a = u * 2 ^ s := by
  have key : ∃ s u, Normal s u ∧ u < 2 ^ 24 ∧ s ≤ 253 ∧ a.toNat % 2 ^ 31 = s * 2 ^ 23 + u := by
    rw [isFinite, bne_iff_ne, expo_eq] at ha
    by_cases he : a.toNat / 2 ^ 23 % 2 ^ 8 = 0
    · exact ⟨0, a.toNat % 2 ^ 31, by constructor <;> omega, by omega, by omega, by omega⟩
    · exact ⟨a.toNat / 2 ^ 23 % 2 ^ 8 - 1, 2 ^ 23 + a.toNat % 2 ^ 23, by constructor <;> omega,
        by omega, by omega, by omega⟩
  obtain ⟨s, u, hn, hu, hs, hpat⟩ := key
  have hword : a = withSign (signBit a) (s * 2 ^ 23 + u) := hpat ▸ eq_withSign a
  refine ⟨s, u, hn, hu, hs, hword, ?_⟩
  rw [hword]
  exact mag_withSign _ hn (by omega)

/-- A normal form below 2^24 is unique. -/
theorem normal_unique {s u t w : Nat} (hu : Normal s u) (hu' : u < 2 ^ 24) (hw : Normal t w)
    (hw' : w < 2 ^ 24) (h : u * 2 ^ s = w * 2 ^ t) : s = t ∧ u = w := by
  have key : ∀ {s u t w : Nat}, u < 2 ^ 24 → Normal t w → u * 2 ^ s = w * 2 ^ t → t ≤ s := by
    intro s u t w hu hw h
    by_contra hlt
    obtain ⟨d, rfl⟩ : ∃ d, t = s + 1 + d := Nat.exists_eq_add_of_le (by omega)
    have hcancel : u = w * 2 * 2 ^ d := by
      refine Nat.eq_of_mul_eq_mul_right (Nat.two_pow_pos s) ?_
      rw [h, pow_add, pow_succ]
      ring
    have : w * 2 * 1 ≤ w * 2 * 2 ^ d := Nat.mul_le_mul_left _ (Nat.two_pow_pos d)
    obtain ⟨-, h0 | h0⟩ := hw <;> omega
  obtain rfl : s = t := Nat.le_antisymm (key hw' hu h.symm) (key hu' hw h)
  exact ⟨rfl, Nat.eq_of_mul_eq_mul_right (Nat.two_pow_pos s) h⟩

theorem eq_of_signBit_of_mag {a b : Word} (ha : isFinite a = true) (hb : isFinite b = true)
    (hsign : signBit a = signBit b) (hmag : mag a = mag b) : a = b := by
  obtain ⟨s, u, hn, hu, -, hword, hval⟩ := exists_normal_of_isFinite ha
  obtain ⟨t, w, hn', hw, -, hword', hval'⟩ := exists_normal_of_isFinite hb
  obtain ⟨rfl, rfl⟩ := normal_unique hn hu hn' hw (by rw [← hval, ← hval', hmag])
  rw [hword, hword', hsign]

/-- The largest finite magnitude (R92). -/
theorem mag_le_of_isFinite {a : Word} (ha : isFinite a = true) : mag a ≤ (2 ^ 24 - 1) * 2 ^ 253 := by
  obtain ⟨s, u, -, hu, hs, -, hmag⟩ := exists_normal_of_isFinite ha
  rw [hmag]
  exact Nat.mul_le_mul (by omega) (Nat.pow_le_pow_right (by decide) hs)

/-- Every 24-bit multiple of a power of two in the range is a finite value. -/
theorem exists_finite_of_le {s u : Nat} (neg : Bool) (hu : u ≤ 2 ^ 24) (hs : s ≤ 252) :
    ∃ c, isFinite c = true ∧ signBit c = neg ∧ mag c = u * 2 ^ s := by
  induction s generalizing u with
  | zero =>
    have hlt : 0 * 2 ^ 23 + u < 0x7F800000 := by omega
    exact ⟨_, (isFinite_withSign_iff neg (by omega)).2 hlt, signBit_withSign _ _ (by omega),
      mag_withSign neg ⟨hu, .inl rfl⟩ (by omega)⟩
  | succ s ih =>
    rcases Nat.lt_or_ge u (2 ^ 23) with hsmall | hbig
    · obtain ⟨c, hfin, hsign, hmag⟩ := ih (u := u * 2) (by omega) (by omega)
      exact ⟨c, hfin, hsign, by rw [hmag, pow_succ]; ring⟩
    · have hlt : (s + 1) * 2 ^ 23 + u < 0x7F800000 := by omega
      exact ⟨_, (isFinite_withSign_iff neg (by omega)).2 hlt, signBit_withSign _ _ (by omega),
        mag_withSign neg ⟨hu, .inr hbig⟩ (by omega)⟩

/-! ## Rounding to a multiple (R91) -/

/-- `u * d` is the multiple of `d` nearest to `x`, the even one of two. -/
structure NearestEven (u : Int) (d x : ℝ) : Prop where
  close : |u * d - x| ≤ d / 2
  tie : |u * d - x| = d / 2 → u % 2 = 0

theorem NearestEven.neg {u : Int} {d x : ℝ} (h : NearestEven u d x) : NearestEven (-u) d (-x) := by
  have hflip : |((-u : Int) : ℝ) * d - -x| = |u * d - x| := by
    rw [← abs_neg]
    congr 1
    push_cast
    ring
  exact ⟨hflip ▸ h.close, fun ht => by have := h.tie (hflip ▸ ht); omega⟩

theorem NearestEven.div {u : Int} {d x q : ℝ} (hq : 0 < q) (h : NearestEven u (q * d) x) :
    NearestEven u d (x / q) := by
  have hscale : |u * (q * d) - x| = q * |u * d - x / q| := by
    rw [← abs_of_pos hq, ← abs_mul, abs_of_pos hq]
    congr 1
    field_simp
  have hclose := h.close
  have htie := h.tie
  rw [hscale, show q * d / 2 = q * (d / 2) by ring] at hclose htie
  exact ⟨le_of_mul_le_mul_left hclose hq, fun ht => htie (by rw [ht])⟩

/-- No other multiple is nearer, and one that is as near makes a tie. -/
theorem NearestEven.le {u : Int} {d x : ℝ} (hd : 0 < d) (h : NearestEven u d x) (m : Int) :
    |u * d - x| ≤ |m * d - x| ∧ (|u * d - x| = |m * d - x| → m ≠ u → u % 2 = 0) := by
  by_cases hm : m = u
  · exact ⟨by rw [hm], fun _ hne => absurd hm hne⟩
  · have hgap : d ≤ |(m * d - x) - (u * d - x)| := by
      have hone : (1 : ℝ) ≤ |((m - u : Int) : ℝ)| := by
        exact_mod_cast Int.one_le_abs (sub_ne_zero.2 hm)
      calc d = 1 * d := (one_mul d).symm
        _ ≤ |((m - u : Int) : ℝ)| * d := mul_le_mul_of_nonneg_right hone hd.le
        _ = |(m * d - x) - (u * d - x)| := by
          rw [← abs_of_pos hd, ← abs_mul, abs_of_pos hd]
          push_cast
          ring_nf
    have htri := abs_sub (m * d - x) (u * d - x)
    have hclose := h.close
    exact ⟨by linarith, fun heq _ => h.tie (by linarith)⟩

theorem nearestEven_roundHalfEven (p : Nat) {q : Nat} (hq : 0 < q) :
    NearestEven (roundHalfEven p q : Nat) q p := by
  have hdiv : (q : ℝ) * (p / q : Nat) + (p % q : Nat) = p := by exact_mod_cast Nat.div_add_mod p q
  have hmod : p % q < q := Nat.mod_lt p hq
  unfold roundHalfEven
  generalize p / q = t at hdiv ⊢
  generalize p % q = r at hdiv hmod ⊢
  have hr : (r : ℝ) < q := by exact_mod_cast hmod
  have hr0 : (0 : ℝ) ≤ r := Nat.cast_nonneg r
  simp only [Bool.or_eq_true, Bool.and_eq_true, decide_eq_true_eq, beq_iff_eq]
  split
  next hup =>
    have hhalf : (q : ℝ) ≤ 2 * r := by exact_mod_cast (by omega : q ≤ 2 * r)
    have hdist : |(((t + 1 : Nat) : Int) : ℝ) * q - p| = q - r := by
      rw [abs_of_nonneg] <;> push_cast <;> linarith
    refine ⟨by rw [hdist]; linarith, fun ht => ?_⟩
    have heq : 2 * r = q := by
      rw [hdist] at ht
      exact_mod_cast (by linarith : (2 : ℝ) * r = q)
    omega
  next hdown =>
    have hhalf : 2 * (r : ℝ) ≤ q := by exact_mod_cast (by omega : 2 * r ≤ q)
    have hdist : |((t : Int) : ℝ) * q - p| = r := by
      rw [abs_sub_comm, abs_of_nonneg] <;> push_cast <;> linarith
    refine ⟨by rw [hdist]; linarith, fun ht => ?_⟩
    have heq : 2 * r = q := by
      rw [hdist] at ht
      exact_mod_cast (by linarith : (2 : ℝ) * r = q)
    omega

/-! ## Rounding to 24 bits -/

/-- `u` is the significand of `x` at the shift `s`: rounded to nearest even, with the shift chosen so that
`x` has 24 bits, or fewer at the least shift. -/
structure RoundsAt (s u : Nat) (x : ℝ) : Prop where
  nonneg : 0 ≤ x
  nearest : NearestEven u (2 ^ s) x
  below : x < 2 ^ (s + 24)
  above : s = 0 ∨ 2 ^ (s + 23) ≤ x

theorem RoundsAt.normal {s u : Nat} {x : ℝ} (h : RoundsAt s u x) : Normal s u := by
  obtain ⟨hlow, hhigh⟩ := abs_le.1 h.nearest.close
  have hd : (0 : ℝ) < 2 ^ s := by positivity
  have hbelow := h.below
  have habove := h.above
  rw [pow_add] at hbelow habove
  push_cast at hlow hhigh
  constructor
  · by_contra hgt
    have hge : (2 ^ 24 + 1 : ℝ) ≤ u := by exact_mod_cast Nat.lt_of_not_le hgt
    nlinarith
  · refine habove.imp_right fun hx => ?_
    by_contra hlt
    have hle : (u : ℝ) + 1 ≤ 2 ^ 23 := by exact_mod_cast Nat.lt_of_not_le hlt
    nlinarith

/-- The rounded pattern stays below the infinity's exactly when `x` is below half a unit above the largest
finite value (R92). -/
theorem RoundsAt.pattern_lt_iff {s u : Nat} {x : ℝ} (h : RoundsAt s u x) :
    s * 2 ^ 23 + u < 0x7F800000 ↔ x < (2 ^ 25 - 1) * 2 ^ 252 := by
  obtain ⟨hle, hge⟩ := h.normal
  have hpow : ∀ k, (2 : ℝ) ^ (252 + k) = 2 ^ k * 2 ^ 252 := fun k => by rw [pow_add, mul_comm]
  have hd : (0 : ℝ) < 2 ^ 252 := by positivity
  rcases Nat.lt_trichotomy s 253 with hs | rfl | hs
  · have hx : x < 2 ^ (252 + 24) := h.below.trans_le (pow_le_pow_right₀ (by norm_num) (by omega))
    rw [hpow] at hx
    generalize (2 : ℝ) ^ 252 = d at *
    exact iff_of_true (by omega) (by linarith)
  · obtain ⟨hlow, hhigh⟩ := abs_le.1 h.nearest.close
    have htie := h.nearest.tie
    rw [show 253 = 252 + 1 from rfl, hpow] at hlow hhigh htie
    generalize (2 : ℝ) ^ 252 = d at *
    push_cast at hlow hhigh htie
    constructor
    · intro hfin
      rcases Nat.lt_or_ge u (2 ^ 24 - 1) with hu | hu
      · have hu' : (u : ℝ) + 2 ≤ 2 ^ 24 := by exact_mod_cast (by omega : u + 2 ≤ 2 ^ 24)
        nlinarith
      · obtain rfl : u = 2 ^ 24 - 1 := by omega
        refine lt_of_le_of_ne (by norm_num at hlow ⊢; linarith) fun heq => ?_
        have := htie (by rw [heq, abs_of_neg] <;> norm_num <;> linarith)
        omega
    · intro hx
      by_contra hinf
      obtain rfl : u = 2 ^ 24 := by omega
      norm_num at hhigh hx
      linarith
  · have hx : 2 ^ (252 + 25) ≤ x := by
      refine (pow_le_pow_right₀ (by norm_num) ?_).trans (h.above.resolve_left (by omega))
      omega
    rw [hpow] at hx
    generalize (2 : ℝ) ^ 252 = d at *
    exact iff_of_false (by omega) (by linarith)

/-- A finite magnitude is a multiple of the unit of `x`, or it lies below the least 24-bit one. -/
theorem RoundsAt.le_mag {s u : Nat} {x : ℝ} (h : RoundsAt s u x) {c : Word} (hc : isFinite c = true) :
    |(u * 2 ^ s : ℝ) - x| ≤ |(mag c : ℝ) - x| ∧
      (|(u * 2 ^ s : ℝ) - x| = |(mag c : ℝ) - x| → mag c ≠ u * 2 ^ s → u % 2 = 0) := by
  obtain ⟨t, w, -, hw, -, -, hmag⟩ := exists_normal_of_isFinite hc
  have hd : (0 : ℝ) < 2 ^ s := by positivity
  have hgrid (m : Nat) : |(u * 2 ^ s : ℝ) - x| ≤ |(m * 2 ^ s : ℝ) - x| ∧
      (|(u * 2 ^ s : ℝ) - x| = |(m * 2 ^ s : ℝ) - x| → m ≠ u → u % 2 = 0) := by
    have := h.nearest.le hd m
    simp only [Int.cast_natCast, ne_eq, Int.natCast_inj] at this
    exact ⟨this.1, fun heq hne => by exact_mod_cast this.2 heq hne⟩
  rcases Nat.lt_or_ge t s with hts | hst
  · have hx : (2 : ℝ) ^ 23 * 2 ^ s ≤ x := by
      rw [← pow_add, Nat.add_comm]
      exact h.above.resolve_left (by omega)
    have hsmall : (mag c : ℝ) < 2 ^ 23 * 2 ^ s := by
      have : w * 2 ^ t < 2 ^ 23 * 2 ^ s := by
        calc w * 2 ^ t < 2 ^ 24 * 2 ^ t := Nat.mul_lt_mul_of_pos_right hw (Nat.two_pow_pos t)
          _ = 2 ^ 23 * 2 ^ (t + 1) := by ring
          _ ≤ 2 ^ 23 * 2 ^ s := Nat.mul_le_mul_left _ (Nat.pow_le_pow_right (by decide) hts)
      rw [hmag]
      exact_mod_cast this
    have hle : |(u * 2 ^ s : ℝ) - x| ≤ |2 ^ 23 * 2 ^ s - x| := by exact_mod_cast (hgrid (2 ^ 23)).1
    rw [abs_of_nonpos (a := (2 : ℝ) ^ 23 * 2 ^ s - x) (by linarith)] at hle
    rw [abs_of_neg (a := (mag c : ℝ) - x) (by linarith)]
    exact ⟨by linarith, fun heq => absurd heq (by linarith)⟩
  · obtain ⟨d, rfl⟩ := Nat.exists_eq_add_of_le hst
    have hmul : mag c = w * 2 ^ d * 2 ^ s := by rw [hmag, pow_add]; ring
    obtain ⟨hle, htie⟩ := hgrid (w * 2 ^ d)
    rw [hmul]
    push_cast at hle htie ⊢
    exact ⟨hle, fun heq hne => htie heq fun heq' => hne (by rw [heq'])⟩

theorem roundsAt_log2 (p : Nat) {q : Nat} (hq : 0 < q) :
    RoundsAt (Nat.log2 (p / q) - 23) (roundHalfEven p (q * 2 ^ (Nat.log2 (p / q) - 23))) (p / q) := by
  have hq' : (0 : ℝ) < q := by exact_mod_cast hq
  generalize hs : Nat.log2 (p / q) - 23 = s
  refine ⟨by positivity, ?_, ?_, ?_⟩
  · have := nearestEven_roundHalfEven p (Nat.mul_pos hq (Nat.two_pow_pos s))
    push_cast at this
    exact this.div hq'
  · have hlt : p / q < 2 ^ (s + 24) :=
      Nat.lt_log2_self.trans_le (Nat.pow_le_pow_right (by decide) (by omega))
    rw [div_lt_iff₀ hq']
    exact_mod_cast (Nat.div_lt_iff_lt_mul hq).1 hlt
  · refine or_iff_not_imp_left.2 fun hs0 => ?_
    have hle : 2 ^ (s + 23) ≤ p / q := by
      rw [show s + 23 = Nat.log2 (p / q) by omega]
      exact Nat.log2_self_le fun h0 => by rw [h0, Nat.log2_zero] at hs; omega
    rw [le_div_iff₀ hq']
    exact_mod_cast (Nat.le_div_iff_mul_le hq).1 hle

/-! ## The rounded word -/

/-- The word's magnitude is the real number `x >= 0` correctly rounded: `CorrectlyRounded` less the sign. -/
structure MagRounded (r : Word) (x : ℝ) : Prop where
  notNaN : isNaN r = false
  finite_iff : isFinite r = true ↔ x < (2 ^ 25 - 1) * 2 ^ 252
  nearest : isFinite r = true → ∀ c, isFinite c = true → |(mag r : ℝ) - x| ≤ |(mag c : ℝ) - x| ∧
    (|(mag r : ℝ) - x| = |(mag c : ℝ) - x| → mag c ≠ mag r → r.getLsbD 0 = false)

theorem isNaN_withSign (neg : Bool) {m : Nat} (h : m ≤ 0x7F800000) : isNaN (withSign neg m) = false := by
  simp only [isNaN, expo_withSign _ _ (show m < 2 ^ 31 by omega),
    frac_withSign _ _ (show m < 2 ^ 31 by omega), Bool.and_eq_false_imp, beq_iff_eq, bne_eq_false_iff_eq]
  omega

theorem getLsbD_zero_withSign (neg : Bool) {m : Nat} (h : m < 2 ^ 31) :
    (withSign neg m).getLsbD 0 = decide (m % 2 = 1) := by
  rw [BitVec.getLsbD, Nat.testBit_zero, withSign_toNat _ _ h]
  cases neg <;> simp [Nat.add_mod]

theorem RoundsAt.magRounded {s u : Nat} {x : ℝ} (h : RoundsAt s u x) (neg : Bool) :
    MagRounded (withSign neg (min 0x7F800000 (s * 2 ^ 23 + u))) x := by
  have hle : min 0x7F800000 (s * 2 ^ 23 + u) ≤ 0x7F800000 := Nat.min_le_left _ _
  refine ⟨isNaN_withSign neg hle, ?_, fun hfin c hc => ?_⟩
  · rw [isFinite_withSign_iff neg hle, ← h.pattern_lt_iff]
    omega
  · have hlt := (isFinite_withSign_iff neg hle).1 hfin
    rw [Nat.min_eq_right (by omega), mag_withSign neg h.normal (by omega),
      getLsbD_zero_withSign neg (by omega)]
    push_cast
    obtain ⟨hnear, htie⟩ := h.le_mag hc
    refine ⟨hnear, fun heq hne => decide_eq_false ?_⟩
    have := htie heq hne
    omega

theorem magRounded_roundTo (neg : Bool) (p : Nat) {q : Nat} (hq : 0 < q) :
    MagRounded (roundTo neg p q) (p / q) :=
  (roundsAt_log2 p hq).magRounded neg

theorem signBit_roundTo (neg : Bool) (p q : Nat) : signBit (roundTo neg p q) = neg :=
  signBit_withSign _ _ (by have := roundMag_le p q; omega)

/-- Settles O50: the real statement `magRounded_roundTo`, multiplied by the denominator. -/
theorem roundingIsNearestEven : Obligations.RoundingIsNearestEven := by
  unfold Obligations.RoundingIsNearestEven
  intro neg p q hq
  have hq' : (0 : ℝ) < q := by exact_mod_cast hq
  obtain ⟨hnan, hfin, hnear⟩ := magRounded_roundTo neg p hq
  have hscale : ∀ m : Nat, ((|((m * q : Nat) : Int) - p| : Int) : ℝ) = |(m : ℝ) - p / q| * q := by
    intro m
    rw [← abs_of_pos hq', ← abs_mul, abs_of_pos hq']
    push_cast
    congr 1
    field_simp
  refine ⟨signBit_roundTo neg p q, hnan, ?_, fun c hr hc => ?_⟩
  · rw [hfin, div_lt_iff₀ hq', mul_comm, ← Nat.cast_lt (α := ℝ)]
    norm_num
  · obtain ⟨hle, htie⟩ := hnear hr c hc
    refine ⟨?_, fun heq hne => htie ?_ hne⟩
    · rw [← Int.cast_le (R := ℝ), hscale, hscale]
      exact mul_le_mul_of_nonneg_right hle hq'.le
    · rw [← Int.cast_inj (α := ℝ), hscale, hscale] at heq
      exact mul_right_cancel₀ hq'.ne' heq

end Sys2Proof.Machine
end

section
/-! PROOF. The arithmetic primitives on finite operands (40_numerics.md R92 to R96): each rounds its exact
result once, so its correctness is that of the rounding. -/

namespace Sys2Proof.Machine

/-! ## Classes, sign and magnitude of a word (R90, R94) -/

theorem isNaN_of_isFinite {a : Word} (ha : isFinite a = true) : isNaN a = false := by
  rw [isFinite, bne_iff_ne] at ha
  simp [isNaN, ha]

theorem isInf_of_isFinite {a : Word} (ha : isFinite a = true) : isInf a = false := by
  rw [isFinite, bne_iff_ne] at ha
  simp [isInf, ha]

@[simp] theorem signBit_fneg (a : Word) : signBit (fneg a) = !signBit a := by
  rw [signBit, fneg, BitVec.msb_xor, show (0x80000000#32).msb = true from rfl, Bool.xor_true, signBit]

@[simp] theorem expo_fneg (a : Word) : expo (fneg a) = expo a := by
  simp [expo, fneg, BitVec.extractLsb'_xor]

@[simp] theorem frac_fneg (a : Word) : frac (fneg a) = frac a := by
  simp [frac, fneg, BitVec.extractLsb'_xor]

@[simp] theorem mag_fneg (a : Word) : mag (fneg a) = mag a := by simp [mag]
@[simp] theorem isNaN_fneg (a : Word) : isNaN (fneg a) = isNaN a := by simp [isNaN]
@[simp] theorem isInf_fneg (a : Word) : isInf (fneg a) = isInf a := by simp [isInf]
@[simp] theorem isFinite_fneg (a : Word) : isFinite (fneg a) = isFinite a := by simp [isFinite]
@[simp] theorem isZero_fneg (a : Word) : isZero (fneg a) = isZero a := by simp [isZero]

@[simp] theorem value_fneg (a : Word) : value (fneg a) = -value a := by
  cases h : signBit a <;> simp [value, h]

@[simp] theorem fneg_fneg (a : Word) : fneg (fneg a) = a := by
  simp [fneg]

theorem value_of_signBit {a : Word} {neg : Bool} (h : signBit a = neg) :
    value a = if neg then -(mag a : Int) else mag a := by rw [value, h]

theorem natAbs_value (a : Word) : (value a).natAbs = mag a := by
  cases h : signBit a <;> simp [value, h]

theorem value_eq_zero_iff (a : Word) : value a = 0 ↔ isZero a = true := by
  rw [← Int.natAbs_eq_zero, natAbs_value, isZero, beq_iff_eq]

theorem abs_value (a : Word) : |(value a : ℝ)| = mag a := by
  cases h : signBit a <;> simp [value, h]

/-- The real number with this sign and this magnitude. -/
def signed (neg : Bool) (x : ℝ) : ℝ := if neg then -x else x

@[simp] theorem signed_false (x : ℝ) : signed false x = x := rfl
@[simp] theorem signed_true (x : ℝ) : signed true x = -x := rfl
@[simp] theorem signed_zero (neg : Bool) : signed neg 0 = 0 := by cases neg <;> simp

theorem abs_signed (neg : Bool) {x : ℝ} (hx : 0 ≤ x) : |signed neg x| = x := by
  cases neg <;> simp [abs_of_nonneg hx]

theorem value_eq_signed (a : Word) : (value a : ℝ) = signed (signBit a) (mag a) := by
  cases h : signBit a <;> simp [value, h]

theorem signed_sub (neg : Bool) (x y : ℝ) : signed neg x - signed neg y = signed neg (x - y) := by
  cases neg <;> simp [neg_add_eq_sub]

theorem signed_mul (n n' : Bool) (x y : ℝ) : signed n x * signed n' y = signed (n != n') (x * y) := by
  cases n <;> cases n' <;> simp

theorem signed_div (n n' : Bool) (x y : ℝ) : signed n x / signed n' y = signed (n != n') (x / y) := by
  cases n <;> cases n' <;> simp [neg_div, div_neg]

/-! ## Correct rounding with a sign -/

/-- Giving the sign back costs nothing: a value of the other sign is no nearer than that of this sign. -/
theorem MagRounded.correctlyRounded {r : Word} {x : ℝ} (h : MagRounded r x) (hx : 0 ≤ x) :
    CorrectlyRounded r (signed (signBit r) x) := by
  have habs := abs_signed (signBit r) hx
  have hsame : |(value r : ℝ) - signed (signBit r) x| = |(mag r : ℝ) - x| := by
    rw [value_eq_signed, signed_sub]
    cases signBit r <;> simp [abs_sub_comm]
  have hother (c : Word) : |(mag c : ℝ) - x| ≤ |(value c : ℝ) - signed (signBit r) x| := by
    simpa [habs, abs_value] using abs_abs_sub_abs_le (value c : ℝ) (signed (signBit r) x)
  refine ⟨h.notNaN, by rw [habs, h.finite_iff], by cases signBit r <;> simpa using hx, fun hr c hc => ?_⟩
  obtain ⟨hle, htie⟩ := h.nearest hr c hc
  refine ⟨hsame.trans_le (hle.trans (hother c)), fun heq hne => ?_⟩
  refine htie (le_antisymm hle ((hother c).trans_eq (heq.symm.trans hsame))) fun hmag => hne ?_
  rw [← natAbs_value, ← natAbs_value] at hmag
  rcases Int.natAbs_eq_natAbs_iff.1 hmag with hval | hopp
  · exact hval
  · suffices hzero : value r = 0 by rw [hopp, hzero, neg_zero]
    rw [hopp, Int.cast_neg, ← neg_add', abs_neg] at heq
    rcases abs_eq_abs.1 heq with hexact | hvalue
    · have hx0 : x = 0 := by
        rw [← habs, abs_eq_zero]
        linarith
      have hnear := (h.nearest hr 0 (by decide)).1
      rw [hx0, show mag 0 = 0 from rfl] at hnear
      rw [value_eq_zero_iff, isZero, beq_iff_eq]
      simpa using hnear
    · exact_mod_cast (by linarith : (value r : ℝ) = 0)

theorem correctlyRounded_roundTo (neg : Bool) (p : Nat) {q : Nat} (hq : 0 < q) :
    CorrectlyRounded (roundTo neg p q) (signed neg (p / q)) := by
  have h := (magRounded_roundTo neg p hq).correctlyRounded (by positivity)
  rwa [signBit_roundTo] at h

/-- An integer number of units is rounded with its own sign. -/
theorem correctlyRounded_roundTo_int (n : Int) :
    CorrectlyRounded (roundTo (decide (n < 0)) n.natAbs 1) n := by
  have h := correctlyRounded_roundTo (decide (n < 0)) n.natAbs Nat.one_pos
  have hval : signed (decide (n < 0)) ((n.natAbs : ℝ) / (1 : Nat)) = n := by
    rw [Nat.cast_one, div_one, Nat.cast_natAbs, Int.cast_abs]
    by_cases hn : n < 0
    · simp [hn, abs_of_neg (Int.cast_lt_zero.2 hn : (n : ℝ) < 0)]
    · simp [hn, abs_of_nonneg (Int.cast_nonneg (Int.not_lt.1 hn) : (0 : ℝ) ≤ n)]
  rwa [hval] at h

/-- A real number that is a finite value is rounded to that value. -/
theorem CorrectlyRounded.eq_value {r c : Word} {x : ℝ} (h : CorrectlyRounded r x)
    (hc : isFinite c = true) (hx : x = value c) : isFinite r = true ∧ value r = value c := by
  obtain ⟨-, hfin, -, hnear⟩ := h
  have hr : isFinite r = true := by
    rw [hfin, hx, abs_value]
    have hmag : (mag c : ℝ) ≤ ((2 ^ 24 - 1) * 2 ^ 253 : Nat) := by exact_mod_cast mag_le_of_isFinite hc
    exact hmag.trans_lt (by norm_num)
  obtain ⟨hle, -⟩ := hnear hr c hc
  rw [hx, sub_self, abs_zero, abs_nonpos_iff, sub_eq_zero] at hle
  exact ⟨hr, by exact_mod_cast hle⟩

theorem roundTo_zero (neg : Bool) (q : Nat) : roundTo neg 0 q = zeroOf neg := by
  simp [roundTo, zeroOf, roundMag, roundHalfEven]

/-- A finite value in units of `1 / q` is rounded to the word itself (R92). -/
theorem roundTo_mag {a : Word} (ha : isFinite a = true) {q : Nat} (hq : 0 < q) :
    roundTo (signBit a) (mag a * q) q = a := by
  have hq' : (q : ℝ) ≠ 0 := by exact_mod_cast hq.ne'
  have hexact : signed (signBit a) ((mag a * q : Nat) / q) = value a := by
    rw [value_eq_signed, Nat.cast_mul, mul_div_cancel_right₀ _ hq']
  obtain ⟨hfin, hval⟩ := (correctlyRounded_roundTo (signBit a) (mag a * q) hq).eq_value ha hexact
  refine eq_of_signBit_of_mag hfin ha (signBit_roundTo _ _ _) ?_
  rw [← natAbs_value, hval, natAbs_value]

theorem zeroOf_signBit {a : Word} (ha : isZero a = true) : zeroOf (signBit a) = a := by
  rw [isZero, beq_iff_eq] at ha
  have hfin : isFinite a = true := by
    by_contra h
    simp only [isFinite, bne_iff_ne, ne_eq, not_not] at h
    rw [mag, if_neg (by omega), h] at ha
    exact absurd ha (Nat.mul_pos (by omega) (Nat.two_pow_pos _)).ne'
  rw [← roundTo_zero _ 1, ← roundTo_mag hfin Nat.one_pos, ha, signBit_roundTo]

/-! ## Sum, difference, product and quotient (R92) -/

section
variable {a b : Word} (k : Site) (ha : isFinite a = true) (hb : isFinite b = true)
include ha hb

theorem fadd_of_isFinite : fadd k a b =
    if value a + value b = 0 then zeroOf (isZero a && isZero b && signBit a && signBit b)
    else roundTo (decide (value a + value b < 0)) (value a + value b).natAbs 1 := by
  simp [fadd, isNaN_of_isFinite, isInf_of_isFinite, ha, hb]

theorem fmul_of_isFinite :
    fmul k a b = roundTo (signBit a != signBit b) (mag a * mag b) (2 ^ 149) := by
  simp [fmul, isNaN_of_isFinite, isInf_of_isFinite, ha, hb]

theorem fdiv_of_isFinite (hzero : isZero b = false) :
    fdiv k a b = roundTo (signBit a != signBit b) (mag a * 2 ^ 149) (mag b) := by
  simp [fdiv, isNaN_of_isFinite, isInf_of_isFinite, ha, hb, hzero]

theorem correctlyRounded_fadd : CorrectlyRounded (fadd k a b) (value a + value b) := by
  rw [fadd_of_isFinite k ha hb]
  split
  next hsum =>
    have h := correctlyRounded_roundTo (isZero a && isZero b && signBit a && signBit b) 0 Nat.one_pos
    rw [roundTo_zero] at h
    simpa [← Int.cast_add, hsum] using h
  next => exact_mod_cast correctlyRounded_roundTo_int (value a + value b)

theorem correctlyRounded_fmul : CorrectlyRounded (fmul k a b) (value a * value b / 2 ^ 149) := by
  have h := correctlyRounded_roundTo (signBit a != signBit b) (mag a * mag b) (Nat.two_pow_pos 149)
  rw [fmul_of_isFinite k ha hb, value_eq_signed, value_eq_signed, signed_mul]
  rw [show (2 : ℝ) ^ 149 = signed false ((2 ^ 149 : Nat) : ℝ) by norm_num, signed_div, Bool.bne_false,
    ← Nat.cast_mul]
  exact h

theorem correctlyRounded_fdiv (hzero : isZero b = false) :
    CorrectlyRounded (fdiv k a b) (value a * 2 ^ 149 / value b) := by
  have hpos : 0 < mag b := Nat.pos_of_ne_zero (by simpa [isZero] using hzero)
  have h := correctlyRounded_roundTo (signBit a != signBit b) (mag a * 2 ^ 149) hpos
  rw [fdiv_of_isFinite k ha hb hzero, value_eq_signed, value_eq_signed]
  rw [show (2 : ℝ) ^ 149 = signed false ((2 ^ 149 : Nat) : ℝ) by norm_num, signed_mul, signed_div,
    Bool.bne_false, ← Nat.cast_mul]
  exact h

end

theorem correctlyRounded_fsub (k : Site) {a b : Word} (ha : isFinite a = true) (hb : isFinite b = true) :
    CorrectlyRounded (fsub k a b) (value a - value b) := by
  have h := correctlyRounded_fadd k ha (b := fneg b) (by rwa [isFinite_fneg])
  rwa [value_fneg, Int.cast_neg, ← sub_eq_add_neg] at h

/-! ## Square root (R93) -/

/-- The bits above `i` found, `r` is the root but for the bits below. -/
theorem sqrtBits_spec {n : Nat} (i : Nat) {r : Nat} (hle : r * r ≤ n)
    (hlt : n < (r + 2 ^ i) * (r + 2 ^ i)) :
    sqrtBits n i r * sqrtBits n i r ≤ n ∧ n < (sqrtBits n i r + 1) * (sqrtBits n i r + 1) := by
  induction i generalizing r with
  | zero => exact ⟨hle, hlt⟩
  | succ i ih =>
    unfold sqrtBits
    split
    next hbit =>
      refine ih hbit ?_
      rwa [show r + 2 ^ i + 2 ^ i = r + 2 ^ (i + 1) by rw [pow_succ]; omega]
    next hbit => exact ih hle (Nat.lt_of_not_le hbit)

/-- Settles O54: the search for the bits of the root from bit 213 down. -/
theorem integerSquareRoot : Obligations.IntegerSquareRoot := by
  unfold Obligations.IntegerSquareRoot
  exact fun n hn => sqrtBits_spec 214 (Nat.zero_le n) (by rwa [Nat.zero_add])

/-- A bit of weight one half that stands for any part of a unit decides a rounding to a multiple of two
units as that part would. -/
theorem RoundsAt.of_sticky {s u r : Nat} {y : ℝ} (hs : s ≠ 0) (h : RoundsAt s u ((2 * r + 1 : Nat) / 2))
    (hlo : r < y) (hhi : y < r + 1) : RoundsAt s u y := by
  obtain ⟨j, rfl⟩ : ∃ j, s = j + 1 := Nat.exists_eq_succ_of_ne_zero hs
  have hmid : ((2 * r + 1 : Nat) : ℝ) / 2 = r + 1 / 2 := by push_cast; ring
  rw [hmid] at h
  obtain ⟨hlow, hhigh⟩ := abs_le.1 h.nearest.close
  rw [Int.cast_natCast, pow_succ] at hlow hhigh
  have hr : u * 2 ^ (j + 1) ≤ r + 2 ^ j := by
    have : (u * 2 ^ (j + 1) : ℝ) < (r + 2 ^ j + 1 : Nat) := by rw [pow_succ]; push_cast; linarith
    exact Nat.lt_succ_iff.1 (by exact_mod_cast this)
  have hr' : r + 1 ≤ u * 2 ^ (j + 1) + 2 ^ j := by
    have : (r : ℝ) < (u * 2 ^ (j + 1) + 2 ^ j : Nat) := by push_cast; rw [pow_succ]; linarith
    exact_mod_cast this
  have hr1 : (u * 2 ^ (j + 1) : ℝ) ≤ r + 2 ^ j := by exact_mod_cast hr
  have hr2 : (r + 1 : ℝ) ≤ u * 2 ^ (j + 1) + 2 ^ j := by exact_mod_cast hr'
  have hclose : |((u : Int) : ℝ) * 2 ^ (j + 1) - y| < 2 ^ (j + 1) / 2 := by
    rw [Int.cast_natCast, abs_lt]
    constructor <;> rw [pow_succ] at * <;> linarith
  refine ⟨(Nat.cast_nonneg r).trans hlo.le, ⟨hclose.le, fun ht => absurd ht hclose.ne⟩, ?_, .inr ?_⟩
  · have : r < 2 ^ (j + 1 + 24) := by
      have : (r : ℝ) < 2 ^ (j + 1 + 24) := by linarith [h.below]
      exact_mod_cast this
    have : (r + 1 : ℝ) ≤ 2 ^ (j + 1 + 24) := by exact_mod_cast this
    linarith
  · have : (2 : ℝ) ^ (j + 1 + 23) < (r + 1 : Nat) := by
      push_cast
      linarith [h.above.resolve_left hs]
    have : 2 ^ (j + 1 + 23) ≤ r := Nat.lt_succ_iff.1 (by exact_mod_cast this)
    have : (2 ^ (j + 1 + 23) : ℝ) ≤ r := by exact_mod_cast this
    linarith

theorem fsqrt_of_pos (k : Site) {a : Word} (ha : isFinite a = true) (hzero : isZero a = false)
    (hsign : signBit a = false) : fsqrt k a =
      roundTo false (2 * isqrt (mag a * 2 ^ 149) +
        if isqrt (mag a * 2 ^ 149) * isqrt (mag a * 2 ^ 149) = mag a * 2 ^ 149 then 0 else 1) 2 := by
  simp [fsqrt, isNaN_of_isFinite, isInf_of_isFinite, ha, hzero, hsign]

/-- The root of a number of 148 bits or more, with its sticky bit, rounds as the real root does. -/
theorem magRounded_sqrt {n : Nat} (hlow : 2 ^ 148 ≤ n) (hhigh : n < 2 ^ 214 * 2 ^ 214) :
    MagRounded (roundTo false (2 * isqrt n + if isqrt n * isqrt n = n then 0 else 1) 2) (Real.sqrt n) := by
  obtain ⟨hle, hlt⟩ := integerSquareRoot n hhigh
  generalize isqrt n = r at hle hlt ⊢
  by_cases hexact : r * r = n
  · have h := magRounded_roundTo false (2 * r) Nat.two_pos
    rw [if_pos hexact, Nat.add_zero, ← hexact, Nat.cast_mul, Real.sqrt_mul_self (Nat.cast_nonneg r)]
    rwa [Nat.cast_mul, Nat.cast_ofNat, mul_div_cancel_left₀ _ two_ne_zero] at h
  · have hlo : (r : ℝ) < Real.sqrt n := by
      rw [Real.lt_sqrt (Nat.cast_nonneg r), sq]
      exact_mod_cast Nat.lt_of_le_of_ne hle hexact
    have hhi : Real.sqrt n < r + 1 := by
      rw [Real.sqrt_lt' (by positivity), sq]
      exact_mod_cast hlt
    have hroot : 2 ^ 74 < r + 1 :=
      Nat.mul_self_lt_mul_self_iff.1 (lt_of_le_of_lt (by rwa [← pow_add]) hlt)
    have hlog : 24 ≤ Nat.log2 ((2 * r + 1) / 2) := by
      rw [Nat.le_log2 (by omega)]
      omega
    rw [if_neg hexact]
    exact ((roundsAt_log2 (2 * r + 1) Nat.two_pos).of_sticky (by omega) hlo hhi).magRounded false

theorem correctlyRounded_fsqrt (k : Site) {a : Word} (ha : isFinite a = true) (hnonneg : 0 ≤ value a) :
    CorrectlyRounded (fsqrt k a) (Real.sqrt (value a * 2 ^ 149)) := by
  cases hzero : isZero a with
  | true =>
    have hroot : fsqrt k a = zeroOf (signBit a) := by
      simp [fsqrt, isNaN_of_isFinite ha, hzero, zeroOf_signBit hzero]
    have h := correctlyRounded_roundTo (signBit a) 0 Nat.one_pos
    rw [hroot, (value_eq_zero_iff a).2 hzero, ← roundTo_zero _ 1]
    simpa using h
  | false =>
    have hmag : mag a ≠ 0 := by simpa [isZero] using hzero
    have hsign : signBit a = false := by
      by_contra h
      rw [value, if_pos (by simpa using h)] at hnonneg
      omega
    have hle := mag_le_of_isFinite ha
    have h := (magRounded_sqrt (n := mag a * 2 ^ 149) (by omega) (by omega)).correctlyRounded
      (Real.sqrt_nonneg _)
    have hval : ((mag a * 2 ^ 149 : Nat) : ℝ) = value a * 2 ^ 149 := by
      rw [value_of_signBit hsign]
      norm_num
    rwa [signBit_roundTo, signed_false, ← fsqrt_of_pos k ha hzero hsign, hval] at h

/-! ## Conversion and rounding to an integer (R95, R96) -/

theorem correctlyRounded_u2f (n : Nat) : CorrectlyRounded (u2f n) (n * 2 ^ 149) := by
  have h := correctlyRounded_roundTo false (n * 2 ^ 149) Nat.one_pos
  rwa [signed_false, Nat.cast_one, div_one, Nat.cast_mul, Nat.cast_pow, Nat.cast_ofNat] at h

theorem u2f_exact {n : Nat} (hn : n ≤ 2 ^ 24) :
    isFinite (u2f n) = true ∧ value (u2f n) = n * 2 ^ 149 := by
  obtain ⟨c, hc, hsign, hmag⟩ := exists_finite_of_le false hn (s := 149) (by decide)
  have hval : value c = n * 2 ^ 149 := by
    rw [value_of_signBit hsign, hmag, Nat.cast_mul, Nat.cast_pow, Nat.cast_ofNat]
    rfl
  rw [← hval]
  exact (correctlyRounded_u2f n).eq_value hc (by rw [hval]; norm_num)

theorem roundHalfEven_le (p q : Nat) : roundHalfEven p q ≤ p / q + 1 := by
  unfold roundHalfEven
  split <;> omega

theorem roundHalfEven_mul (m : Nat) {q : Nat} (hq : 0 < q) : roundHalfEven (m * q) q = m := by
  simp [roundHalfEven, Nat.mul_div_cancel _ hq, hq.ne]

/-- An integer near a finite value is a finite value: it has at most 24 bits, or the value is itself an
integer. -/
theorem exists_finite_of_roundHalfEven {a : Word} (ha : isFinite a = true) :
    ∃ c, isFinite c = true ∧ signBit c = signBit a ∧
      mag c = roundHalfEven (mag a) (2 ^ 149) * 2 ^ 149 := by
  rcases Nat.lt_or_ge (mag a) (2 ^ 172) with hlt | hge
  · have hle := roundHalfEven_le (mag a) (2 ^ 149)
    exact exists_finite_of_le (signBit a) (by omega) (by decide)
  · obtain ⟨s, u, -, hu, -, -, hmag⟩ := exists_normal_of_isFinite ha
    have hs : 149 ≤ s := by
      by_contra hlt
      have : u * 2 ^ s ≤ (2 ^ 24 - 1) * 2 ^ 148 :=
        Nat.mul_le_mul (by omega) (Nat.pow_le_pow_right (by decide) (by omega))
      omega
    refine ⟨a, ha, rfl, ?_⟩
    rw [hmag, ← Nat.sub_add_cancel hs, pow_add, ← mul_assoc, roundHalfEven_mul _ (Nat.two_pow_pos 149)]

/-- `frint` of a finite value is the integer nearest to its magnitude, with its sign. -/
theorem frint_of_isFinite {a : Word} (ha : isFinite a = true) :
    isFinite (frint a) = true ∧ signBit (frint a) = signBit a ∧
      mag (frint a) = roundHalfEven (mag a) (2 ^ 149) * 2 ^ 149 := by
  obtain ⟨c, hc, hsign, hmag⟩ := exists_finite_of_roundHalfEven ha
  have hword : frint a = c := by
    rw [frint, if_pos ha, ← hsign, ← hmag, ← Nat.mul_one (mag c)]
    exact roundTo_mag hc Nat.one_pos
  rw [hword]
  exact ⟨hc, hsign, hmag⟩

theorem frint_nearest {a : Word} (ha : isFinite a = true) :
    ∃ m : Int, value (frint a) = m * 2 ^ 149 ∧ NearestEven m (2 ^ 149) (value a) := by
  obtain ⟨-, hsign, hmag⟩ := frint_of_isFinite ha
  have hnear := nearestEven_roundHalfEven (mag a) (Nat.two_pow_pos 149)
  rw [Nat.cast_pow, Nat.cast_ofNat] at hnear
  rw [value_of_signBit hsign, hmag, value_eq_signed, Nat.cast_mul, Nat.cast_pow, Nat.cast_ofNat]
  cases signBit a with
  | false => exact ⟨_, if_neg Bool.false_ne_true, hnear⟩
  | true => exact ⟨_, (if_pos rfl).trans (neg_mul _ _).symm, hnear.neg⟩

/-- Settles O51: one lemma per primitive; the nearest integer is nearest among the multiples of one. -/
theorem arithmeticIsCorrectlyRounded : Obligations.ArithmeticIsCorrectlyRounded := by
  unfold Obligations.ArithmeticIsCorrectlyRounded
  refine ⟨fun k a b ha hb => ⟨correctlyRounded_fadd k ha hb, correctlyRounded_fsub k ha hb,
    correctlyRounded_fmul k ha hb, correctlyRounded_fdiv k ha hb, correctlyRounded_fsqrt k ha⟩,
    fun n => ⟨correctlyRounded_u2f n, u2f_exact⟩, fun a => ⟨fun ha => by simp [frint, ha], fun ha => ?_⟩⟩
  obtain ⟨hfin, hsign, -⟩ := frint_of_isFinite ha
  obtain ⟨m, hval, hnear⟩ := frint_nearest ha
  refine ⟨hfin, hsign, m, hval, fun m' => ?_⟩
  obtain ⟨hle, htie⟩ := hnear.le (by positivity) m'
  exact ⟨by exact_mod_cast hle, fun heq hne => htie (by exact_mod_cast heq) hne⟩

end Sys2Proof.Machine
end

section
/-! PROOF. The arithmetic primitives on NaN, infinite and zero operands (40_numerics.md R92, R93), and the
exact facts of R111. -/

namespace Sys2Proof.Machine

/-! ## Words of the special classes -/

theorem eq_of_fields {a b : Word} (hsign : signBit a = signBit b) (hexpo : expo a = expo b)
    (hfrac : frac a = frac b) : a = b := by
  rw [expo_eq, expo_eq] at hexpo
  rw [frac_eq, frac_eq] at hfrac
  rw [eq_withSign a, eq_withSign b, hsign, show a.toNat % 2 ^ 31 = b.toNat % 2 ^ 31 by omega]

theorem isInf_iff (a : Word) : isInf a = true ↔ expo a = 255 ∧ frac a = 0 := by simp [isInf]

theorem isNaN_of_isInf {a : Word} (ha : isInf a = true) : isNaN a = false := by
  obtain ⟨-, hfrac⟩ := (isInf_iff a).1 ha
  simp [isNaN, hfrac]

theorem mag_of_isInf {a : Word} (ha : isInf a = true) : mag a = 2 ^ 23 * 2 ^ 254 := by
  obtain ⟨hexpo, hfrac⟩ := (isInf_iff a).1 ha
  rw [mag, hexpo, hfrac]
  exact if_neg (by decide)

theorem isZero_of_isInf {a : Word} (ha : isInf a = true) : isZero a = false := by
  simp [isZero, mag_of_isInf ha]

/-- Every word is a NaN, an infinity or finite (R90). -/
theorem isFinite_of_not_isNaN_of_not_isInf {a : Word} (hnan : isNaN a = false) (hinf : isInf a = false) :
    isFinite a = true := by
  rw [isFinite, bne_iff_ne]
  intro hexpo
  have hfrac : frac a = 0 := by simpa [isNaN, hexpo] using hnan
  simp [isInf, hexpo, hfrac] at hinf

theorem isFinite_of_isZero {a : Word} (ha : isZero a = true) : isFinite a = true := by
  rw [← zeroOf_signBit ha]
  cases signBit a <;> rfl

theorem infinity_signBit {a : Word} (ha : isInf a = true) : infinity (signBit a) = a := by
  obtain ⟨hexpo, hfrac⟩ := (isInf_iff a).1 ha
  refine eq_of_fields (signBit_withSign _ _ (by decide)) ?_ ?_
  · rw [hexpo, infinity, expo_withSign _ _ (by decide)]
    rfl
  · rw [hfrac, infinity, frac_withSign _ _ (by decide)]
    rfl

theorem signBit_infinity (neg : Bool) : signBit (infinity neg) = neg := by cases neg <;> rfl
theorem signBit_zeroOf (neg : Bool) : signBit (zeroOf neg) = neg := by cases neg <;> rfl
theorem isZero_zeroOf (neg : Bool) : isZero (zeroOf neg) = true := by cases neg <;> rfl

theorem eq_negZero_iff (a : Word) : a = 0x80000000#32 ↔ isZero a = true ∧ signBit a = true := by
  constructor
  · rintro rfl
    decide
  · rintro ⟨hzero, hsign⟩
    rw [← zeroOf_signBit hzero, hsign]
    rfl

theorem fneg_eq_negZero_iff (b : Word) : fneg b = 0x80000000#32 ↔ b = 0 := by
  constructor
  · intro h
    rw [← fneg_fneg b, h]
    rfl
  · rintro rfl
    rfl

/-! ## Commutation (R98, R111): both orders give the NaN of the same place -/

theorem fmul_comm (k : Site) (a b : Word) : fmul k a b = fmul k b a := by
  unfold fmul
  rw [Bool.or_comm (isNaN b), Bool.or_comm (isInf b), Bool.or_comm (isZero b), bne_comm,
    Nat.mul_comm (mag b)]

theorem fadd_comm (k : Site) (a b : Word) : fadd k a b = fadd k b a := by
  unfold fadd
  rw [Bool.or_comm (isNaN b)]
  split
  next => rfl
  next =>
    cases ha : isInf a <;> cases hb : isInf b
    · simp [Int.add_comm, Bool.and_comm, Bool.and_left_comm, Bool.and_assoc]
    · simp
    · simp
    · by_cases hsign : signBit a = signBit b
      · obtain rfl : a = b := by rw [← infinity_signBit ha, ← infinity_signBit hb, hsign]
        rfl
      · simp [hsign, Ne.symm hsign]

/-! ## NaN operands -/

section
variable (k : Site) {a b : Word} (h : isNaN a = true ∨ isNaN b = true)
include h

theorem isNaN_fadd_of_isNaN : isNaN (fadd k a b) = true := by
  rw [fadd, if_pos (by simpa using h)]
  exact isNaN_freeNaN k

theorem isNaN_fsub_of_isNaN : isNaN (fsub k a b) = true :=
  isNaN_fadd_of_isNaN k (by rwa [isNaN_fneg])

theorem isNaN_fmul_of_isNaN : isNaN (fmul k a b) = true := by
  rw [fmul, if_pos (by simpa using h)]
  exact isNaN_freeNaN k

theorem isNaN_fdiv_of_isNaN : isNaN (fdiv k a b) = true := by
  rw [fdiv, if_pos (by simpa using h)]
  exact isNaN_freeNaN k

end

/-! ## Infinite operands -/

section
variable (k : Site) {a b : Word} (ha : isInf a = true)
include ha

theorem fadd_inf_inf (hb : isInf b = true) (hsign : signBit a = signBit b) : fadd k a b = a := by
  simp [fadd, isNaN_of_isInf, ha, hb, hsign]

theorem isNaN_fadd_inf_inf (hb : isInf b = true) (hsign : signBit a ≠ signBit b) :
    isNaN (fadd k a b) = true := by
  simp [fadd, isNaN_of_isInf, ha, hb, hsign, isNaN_freeNaN]

theorem fadd_inf_finite (hb : isFinite b = true) : fadd k a b = a := by
  simp [fadd, isNaN_of_isInf, isNaN_of_isFinite, isInf_of_isFinite, ha, hb]

theorem isNaN_fdiv_inf_inf (hb : isInf b = true) : isNaN (fdiv k a b) = true := by
  simp [fdiv, isNaN_of_isInf, ha, hb, isNaN_freeNaN]

theorem fdiv_inf_finite (hb : isFinite b = true) :
    fdiv k a b = infinity (signBit a != signBit b) := by
  simp [fdiv, isNaN_of_isInf, isNaN_of_isFinite, isInf_of_isFinite, ha, hb]

theorem fdiv_finite_inf (hb : isFinite b = true) : fdiv k b a = zeroOf (signBit a != signBit b) := by
  simp [fdiv, isNaN_of_isInf, isNaN_of_isFinite, isInf_of_isFinite, ha, hb, bne_comm]

theorem fmul_inf_of_not_isZero (hnan : isNaN b = false) (hzero : isZero b = false) :
    fmul k a b = infinity (signBit a != signBit b) := by
  simp [fmul, isNaN_of_isInf, isZero_of_isInf, ha, hnan, hzero]

theorem isNaN_fmul_inf_of_isZero (hzero : isZero b = true) : isNaN (fmul k a b) = true := by
  simp [fmul, isNaN_of_isInf, isNaN_of_isFinite, isFinite_of_isZero, ha, hzero, isNaN_freeNaN]

end

/-! ## Zero operands and zero results -/

theorem isNaN_fdiv_zero_zero (k : Site) {a b : Word} (ha : isZero a = true) (hb : isZero b = true) :
    isNaN (fdiv k a b) = true := by
  have hfa := isFinite_of_isZero ha
  have hfb := isFinite_of_isZero hb
  simp [fdiv, isNaN_of_isFinite, isInf_of_isFinite, hfa, hfb, ha, hb, isNaN_freeNaN]

theorem fdiv_by_zero (k : Site) {a b : Word} (hnan : isNaN a = false) (ha : isZero a = false)
    (hb : isZero b = true) : fdiv k a b = infinity (signBit a != signBit b) := by
  have hfb := isFinite_of_isZero hb
  cases hinf : isInf a with
  | true => exact fdiv_inf_finite k hinf hfb
  | false => simp [fdiv, isNaN_of_isFinite, isInf_of_isFinite, hfb, hnan, ha, hb, hinf]

/-- An exact zero sum is -0.0 only from two negative zeros. -/
theorem fadd_of_sum_zero (k : Site) {a b : Word} (ha : isFinite a = true) (hb : isFinite b = true)
    (hsum : value a + value b = 0) :
    fadd k a b = if a = 0x80000000#32 ∧ b = 0x80000000#32 then 0x80000000#32 else 0 := by
  simp only [fadd_of_isFinite k ha hb, if_pos hsum, eq_negZero_iff]
  split
  next h =>
    obtain ⟨⟨hza, hsa⟩, hzb, hsb⟩ := h
    simp only [hza, hsa, hzb, hsb]
    rfl
  next h =>
    have hneg : (isZero a && isZero b && signBit a && signBit b) = false := by
      simpa [and_assoc, and_left_comm] using h
    rw [hneg]
    rfl

theorem fsub_of_difference_zero (k : Site) {a b : Word} (ha : isFinite a = true) (hb : isFinite b = true)
    (hdiff : value a - value b = 0) :
    fsub k a b = if a = 0x80000000#32 ∧ b = 0 then 0x80000000#32 else 0 := by
  rw [fsub, fadd_of_sum_zero k ha (by rwa [isFinite_fneg]) (by rwa [value_fneg, ← sub_eq_add_neg])]
  simp only [fneg_eq_negZero_iff]

/-- Adding a zero of either sign changes no value but a zero. -/
theorem fadd_of_isZero_right (k : Site) {a b : Word} (hnan : isNaN a = false) (ha : isZero a = false)
    (hb : isZero b = true) : fadd k a b = a := by
  have hfb := isFinite_of_isZero hb
  cases hinf : isInf a with
  | true => exact fadd_inf_finite k hinf hfb
  | false =>
    have hfa := isFinite_of_not_isNaN_of_not_isInf hnan hinf
    have hne : value a ≠ 0 := by rwa [ne_eq, value_eq_zero_iff, Bool.not_eq_true]
    have hsign : decide (value a < 0) = signBit a := by
      have := natAbs_value a
      cases h : signBit a <;> simp [value, h] at hne ⊢
      omega
    rw [fadd_of_isFinite k hfa hfb, (value_eq_zero_iff b).2 hb, Int.add_zero, if_neg hne, hsign,
      natAbs_value, ← Nat.mul_one (mag a), roundTo_mag hfa Nat.one_pos]

/-! ## The sign of a product and a quotient -/

theorem signBit_fmul (k : Site) {a b : Word} (h : isNaN (fmul k a b) = false) :
    signBit (fmul k a b) = (signBit a != signBit b) := by
  simp only [fmul] at h ⊢
  split_ifs at h ⊢
  · simp [isNaN_freeNaN] at h
  · simp [isNaN_freeNaN] at h
  · exact signBit_infinity _
  · exact signBit_roundTo _ _ _

theorem signBit_fdiv (k : Site) {a b : Word} (h : isNaN (fdiv k a b) = false) :
    signBit (fdiv k a b) = (signBit a != signBit b) := by
  simp only [fdiv] at h ⊢
  split_ifs at h ⊢
  · simp [isNaN_freeNaN] at h
  · simp [isNaN_freeNaN] at h
  · exact signBit_infinity _
  · exact signBit_zeroOf _
  · simp [isNaN_freeNaN] at h
  · exact signBit_infinity _
  · exact signBit_roundTo _ _ _

/-! ## Square root (R93) -/

theorem isNaN_fsqrt_iff (k : Site) (a : Word) :
    isNaN (fsqrt k a) = true ↔ isNaN a = true ∨ (signBit a = true ∧ isZero a = false) := by
  unfold fsqrt
  split
  next hnan => simp [hnan, isNaN_freeNaN]
  next hnan =>
    split
    next hzero => simp [hnan, hzero]
    next hzero =>
      split
      next hsign => simp [hsign, hzero, isNaN_freeNaN]
      next hsign =>
        split
        next => simp [hnan, hsign]
        next => simp [hnan, hsign, isNaN_roundTo]

/-- Settles O52: each clause is the lemma of its operands' classes. -/
theorem specialOperands : Obligations.SpecialOperands := by
  unfold Obligations.SpecialOperands
  intro k a b
  refine ⟨fun h => ⟨isNaN_fadd_of_isNaN k h, isNaN_fsub_of_isNaN k h, isNaN_fmul_of_isNaN k h,
      isNaN_fdiv_of_isNaN k h⟩, fun ha hb => ⟨fun hs => ⟨fadd_inf_inf k ha hb hs, ?_⟩, fun hs =>
      ⟨isNaN_fadd_inf_inf k ha hb hs, ?_⟩, isNaN_fdiv_inf_inf k ha hb⟩, fun ha hb => ?_,
    fun ha hnan hzero => ?_, fun ha hb => ?_, isNaN_fdiv_zero_zero k, fdiv_by_zero k,
    signBit_fmul k, signBit_fdiv k,
    fun ha hb => ⟨fadd_of_sum_zero k ha hb, fsub_of_difference_zero k ha hb⟩, isNaN_fsqrt_iff k a,
    rfl, rfl, rfl⟩
  · exact isNaN_fadd_inf_inf k ha (by rwa [isInf_fneg]) (by simp [hs])
  · exact fadd_inf_inf k ha (by rwa [isInf_fneg]) (by simpa [Bool.eq_not] using hs)
  · have hneg : isInf (fneg a) = true := by rwa [isInf_fneg]
    exact ⟨fadd_inf_finite k ha hb, fadd_comm k b a ▸ fadd_inf_finite k ha hb,
      fadd_inf_finite k ha (by rwa [isFinite_fneg]),
      (fadd_comm k b (fneg a)).trans (fadd_inf_finite k hneg hb),
      fdiv_inf_finite k ha hb, fdiv_finite_inf k ha hb⟩
  · have h := fmul_inf_of_not_isZero k ha hnan hzero
    exact ⟨h, fmul_comm k b a ▸ h⟩
  · have h := isNaN_fmul_inf_of_isZero k hb ha
    exact ⟨fmul_comm k b a ▸ h, h⟩

/-! ## The exact facts (R111) -/

theorem fmul_one (k : Site) {a : Word} (hnan : isNaN a = false) : fmul k a 0x3F800000#32 = a := by
  cases hinf : isInf a with
  | true =>
    rw [fmul_inf_of_not_isZero k hinf rfl rfl, show signBit 0x3F800000#32 = false from rfl,
      Bool.bne_false, infinity_signBit hinf]
  | false =>
    have ha := isFinite_of_not_isNaN_of_not_isInf hnan hinf
    rw [fmul_of_isFinite k ha rfl, show signBit 0x3F800000#32 = false from rfl, Bool.bne_false]
    exact roundTo_mag ha (Nat.two_pow_pos 149)

theorem fadd_zero (k : Site) {a : Word} (hnan : isNaN a = false) (hne : a ≠ 0x80000000#32) :
    fadd k a 0 = a := by
  cases hzero : isZero a with
  | false => exact fadd_of_isZero_right k hnan hzero rfl
  | true =>
    have hval := (value_eq_zero_iff a).2 hzero
    rw [fadd_of_sum_zero k (isFinite_of_isZero hzero) rfl (by rw [hval]; rfl), if_neg (by simp [hne])]
    cases hsign : signBit a with
    | true => exact absurd ((eq_negZero_iff a).2 ⟨hzero, hsign⟩) hne
    | false =>
      rw [← zeroOf_signBit hzero, hsign]
      rfl

theorem fsub_self (k : Site) {a : Word} (ha : isFinite a = true) : fsub k a a = 0 := by
  rw [fsub_of_difference_zero k ha ha (sub_self _), if_neg]
  rintro ⟨rfl, h⟩
  exact absurd h (by decide)

theorem fdiv_self (k : Site) {a : Word} (ha : isFinite a = true) (hzero : isZero a = false) :
    fdiv k a a = 0x3F800000#32 := by
  have hpos : 0 < mag a := Nat.pos_of_ne_zero (by simpa [isZero] using hzero)
  rw [fdiv_of_isFinite k ha ha hzero, bne_self_eq_false, Nat.mul_comm]
  exact roundTo_mag (a := 0x3F800000#32) rfl hpos

theorem isZero_fmul_zero (k : Site) {a : Word} (ha : isFinite a = true) : isZero (fmul k a 0) = true := by
  rw [fmul_of_isFinite k ha rfl, show mag 0 = 0 from rfl, Nat.mul_zero, roundTo_zero, isZero_zeroOf]

theorem CorrectlyRounded.feq_value {r c : Word} {x : ℝ} (h : CorrectlyRounded r x)
    (hc : isFinite c = true) (hx : x = value c) : feq r c = true := by
  obtain ⟨hr, hval⟩ := h.eq_value hc hx
  simp [feq, isNaN_of_isFinite, hr, hc, hval]

/-- Settles O53: a result that is a finite value is not rounded. -/
theorem exactArithmeticFacts : Obligations.ExactArithmeticFacts := by
  unfold Obligations.ExactArithmeticFacts
  intro k a b c
  refine ⟨fun hnan => ⟨fmul_one k hnan, (fmul_comm k _ a).trans (fmul_one k hnan)⟩, fadd_zero k,
    fadd_of_sum_zero k rfl rfl rfl, fsub_self k, fdiv_self k, isZero_fmul_zero k, fsub_self k rfl,
    fadd_of_isZero_right k rfl rfl rfl, fun _ _ _ => fmul_comm k a b, fun _ _ _ => fadd_comm k a b,
    fun ha hb hc => ⟨fun h => ?_, fun h => ?_, fun h => ?_⟩⟩
  · exact (correctlyRounded_fadd k ha hb).feq_value hc (by rw [h, Int.cast_add])
  · exact (correctlyRounded_fsub k ha hb).feq_value hc (by rw [h, Int.cast_sub])
  · refine (correctlyRounded_fmul k ha hb).feq_value hc ?_
    rw [← Int.cast_mul, ← h, Int.cast_mul, Int.cast_pow, Int.cast_ofNat,
      mul_div_cancel_right₀ _ (by positivity)]

end Sys2Proof.Machine
end

section
/-! PROOF. The clamps (40_numerics.md R108, R109) and what the contracts of the four transcendental
functions fix in the bits of their results (R104 to R107): each is clamped to its range. -/

namespace Sys2Proof.Machine

/-! ## Order of values (R97) -/

theorem fle_iff {a b : Word} :
    fle a b = true ↔ isNaN a = false ∧ isNaN b = false ∧ value a ≤ value b := by
  simp [fle, and_assoc]

theorem flt_iff {a b : Word} :
    flt a b = true ↔ isNaN a = false ∧ isNaN b = false ∧ value a < value b := by
  simp [flt, and_assoc]

theorem within_iff_value {lo hi v : Word} :
    within lo hi v = true ↔ isNaN lo = false ∧ isNaN hi = false ∧
    isNaN v = false ∧ value lo ≤ value v ∧ value v ≤ value hi := by
  rw [within, Bool.and_eq_true, fle_iff, fle_iff]
  tauto

theorem within_mono {lo hi lo' hi' v : Word} (h : within lo hi v = true) (hlo : fle lo' lo = true)
    (hhi : fle hi hi' = true) : within lo' hi' v = true := by
  rw [within_iff_value] at *
  rw [fle_iff] at hlo hhi
  obtain ⟨-, -, hnan, hge, hle⟩ := h
  obtain ⟨hlo', -, hlow⟩ := hlo
  obtain ⟨-, hhi', hhigh⟩ := hhi
  exact ⟨hlo', hhi', hnan, hlow.trans hge, hle.trans hhigh⟩

theorem within_fneg {lo hi v : Word} (h : within lo hi v = true) :
    within (fneg hi) (fneg lo) (fneg v) = true := by
  rw [within_iff_value] at *
  obtain ⟨hlo, hhi, hnan, hge, hle⟩ := h
  simp only [isNaN_fneg, value_fneg]
  exact ⟨hhi, hlo, hnan, Int.neg_le_neg hle, Int.neg_le_neg hge⟩

/-- A finite value lies strictly between the two infinities. -/
theorem value_bounds_of_isFinite {a : Word} (ha : isFinite a = true) :
    -(2 ^ 23 * 2 ^ 254) < value a ∧ value a < 2 ^ 23 * 2 ^ 254 := by
  have hle := mag_le_of_isFinite ha
  rw [← natAbs_value] at hle
  omega

theorem isFinite_of_within {lo hi v : Word} (hlo : isFinite lo = true) (hhi : isFinite hi = true)
    (h : within lo hi v = true) : isFinite v = true := by
  obtain ⟨-, -, hnan, hge, hle⟩ := within_iff_value.1 h
  cases hinf : isInf v with
  | false => exact isFinite_of_not_isNaN_of_not_isInf hnan hinf
  | true =>
    have hmag := mag_of_isInf hinf
    rw [← natAbs_value] at hmag
    have hlow := value_bounds_of_isFinite hlo
    have hhigh := value_bounds_of_isFinite hhi
    omega

/-- A value in a finite range that begins above zero is finite and positive. -/
theorem finite_pos_of_within {lo hi v : Word} (hlo : isFinite lo = true) (hhi : isFinite hi = true)
    (hpos : flt 0 lo = true) (h : within lo hi v = true) : isFinite v = true ∧ flt 0 v = true := by
  obtain ⟨-, -, hnan, hge, -⟩ := within_iff_value.1 h
  obtain ⟨hzero, -, hlt⟩ := flt_iff.1 hpos
  exact ⟨isFinite_of_within hlo hhi h, flt_iff.2 ⟨hzero, hnan, hlt.trans_le hge⟩⟩

theorem flt_negInf {a : Word} (ha : isFinite a = true) : flt 0xFF800000#32 a = true := by
  obtain ⟨hlt, -⟩ := value_bounds_of_isFinite ha
  refine flt_iff.2 ⟨rfl, isNaN_of_isFinite ha, ?_⟩
  have hval : value 0xFF800000#32 = -(2 ^ 23 * 2 ^ 254) := by decide
  rwa [hval]

theorem fgt_posInf {a : Word} (ha : isFinite a = true) : fgt 0x7F800000#32 a = true := by
  obtain ⟨-, hlt⟩ := value_bounds_of_isFinite ha
  refine flt_iff.2 ⟨isNaN_of_isFinite ha, rfl, ?_⟩
  have hval : value 0x7F800000#32 = 2 ^ 23 * 2 ^ 254 := by decide
  rwa [hval]

/-! ## `clampF` and `sat1` (R108, R109) -/

section
variable {v lo hi : Word} (d : Word)

theorem clampF_of_isNaN (h : isNaN v = true) : clampF v lo hi d = d := if_pos h

theorem clampF_of_flt (h : flt v lo = true) : clampF v lo hi d = lo := by
  obtain ⟨hnan, -, -⟩ := flt_iff.1 h
  simp [clampF, hnan, h]

theorem clampF_of_fgt (hle : fle lo hi = true) (h : fgt v hi = true) : clampF v lo hi d = hi := by
  obtain ⟨-, hnan, hlt⟩ := flt_iff.1 h
  obtain ⟨-, -, hle⟩ := fle_iff.1 hle
  have hnot : flt v lo = false := by
    rw [← Bool.not_eq_true, flt_iff]
    omega
  simp [clampF, hnan, hnot, h]

theorem clampF_of_within (h : within lo hi v = true) : clampF v lo hi d = v := by
  obtain ⟨hlo, hhi, -⟩ := within_iff_value.1 h
  obtain ⟨hnan, hbelow, habove⟩ := (within_iff hlo hhi v).1 h
  simp [clampF, hnan, hbelow, habove]

end

/-- Settles O49: one lemma per place of the operand; an infinity lies beyond both bounds. -/
theorem clampFStaysInRange : Obligations.ClampFStaysInRange := by
  unfold Obligations.ClampFStaysInRange
  intro v lo hi d hlo hhi hle hd
  have hin := within_clampF hle hd v
  exact ⟨hin, isNaN_of_within _ _ _ hin, clampF_of_isNaN d, clampF_of_flt d, clampF_of_fgt d hle,
    clampF_of_within d, clampF_of_fgt d hle (fgt_posInf hhi), clampF_of_flt d (flt_negInf hlo)⟩

/-- `sat1` tests its bounds in the other order, which no value can tell. -/
theorem sat1_eq_clampF (v : Word) : sat1 v = clampF v Config.negOne Config.one Config.zero := by
  unfold sat1
  split
  next hnan => exact (clampF_of_isNaN _ hnan).symm
  next hnan =>
    split
    next habove => exact (clampF_of_fgt _ (by decide) habove).symm
    next habove =>
      split
      next hbelow => exact (clampF_of_flt _ hbelow).symm
      next hbelow =>
        exact (clampF_of_within _ ((within_iff rfl rfl v).2 ⟨Bool.eq_false_of_not_eq_true hnan,
          Bool.eq_false_of_not_eq_true hbelow, Bool.eq_false_of_not_eq_true habove⟩)).symm

/-- Settles O48: `sat1` is the clamp to [-1, 1] with default +0.0. -/
theorem sat1Clamps : Obligations.Sat1Clamps := by
  unfold Obligations.Sat1Clamps
  intro v
  simp only [sat1_eq_clampF]
  obtain ⟨hin, hnan, hdefault, hbelow, habove, hkept, hpos, hneg⟩ :=
    clampFStaysInRange v Config.negOne Config.one Config.zero rfl rfl (by decide) (by decide)
  exact ⟨hin, hnan, hdefault, habove, hbelow, hkept, hpos, hneg⟩

/-! ## `fabs` (R94) -/

theorem signBit_fabs (a : Word) : signBit (fabs a) = false := by
  rw [signBit, fabs, BitVec.msb_and, show (0x7FFFFFFF#32).msb = false from rfl, Bool.and_false]

theorem expo_fabs (a : Word) : expo (fabs a) = expo a := by
  rw [expo, fabs, BitVec.extractLsb'_and,
    show (0x7FFFFFFF#32).extractLsb' 23 8 = BitVec.allOnes 8 from rfl, BitVec.and_allOnes, expo]

theorem frac_fabs (a : Word) : frac (fabs a) = frac a := by
  rw [frac, fabs, BitVec.extractLsb'_and,
    show (0x7FFFFFFF#32).extractLsb' 0 23 = BitVec.allOnes 23 from rfl, BitVec.and_allOnes, frac]

theorem fabs_fneg (a : Word) : fabs (fneg a) = fabs a := by
  apply eq_of_fields <;> simp [signBit_fabs, expo_fabs, frac_fabs]

theorem fabs_of_signBit_false {a : Word} (h : signBit a = false) : fabs a = a :=
  eq_of_fields (by rw [signBit_fabs, h]) (expo_fabs a) (frac_fabs a)

/-! ## The transcendental functions (R104 to R107) -/

theorem within_f_tan {x : Word} (h : within tanDomainMin tanDomainMax x = true) :
    within tanLow tanHigh (f_tan x) = true := by
  rw [f_tan, if_pos h]
  exact within_clampF (by decide) (by decide) _

theorem within_sinOfPositive (x : Word) :
    within Config.negOne Config.one (sinOfPositive x) = true := by
  have hlow : sineLow x = Config.zero ∨ sineLow x = Config.negOne := by
    unfold sineLow
    split <;> simp
  unfold sinOfPositive
  rcases hlow with h | h <;> rw [h]
  · exact within_mono (within_clampF (by decide) (by decide) _) (by decide) (by decide)
  · exact within_clampF (by decide) (by decide) _

theorem within_cosOfPositive (x : Word) : within Config.negOne Config.one (cosOfPositive x) = true :=
  within_clampF (by decide) (by decide) _

section
variable {x : Word}

theorem f_sin_of_isZero (h : isZero x = true) : f_sin x = x := by
  simp [f_sin, isFinite_of_isZero h, h]

/-- Away from the zeros the sine is that of the magnitude, with the operand's sign. -/
theorem f_sin_of_not_isZero (hx : isFinite x = true) (h : isZero x = false) :
    f_sin x = if signBit x then fneg (sinOfPositive (fabs x)) else sinOfPositive (fabs x) := by
  cases hsign : signBit x with
  | false => simp [f_sin, hx, h, hsign, fabs_of_signBit_false]
  | true => simp [f_sin, hx, h, hsign]

theorem f_sin_fneg (hx : isFinite x = true) : f_sin (fneg x) = fneg (f_sin x) := by
  cases h : isZero x with
  | true => rw [f_sin_of_isZero h, f_sin_of_isZero (by rwa [isZero_fneg])]
  | false =>
    rw [f_sin_of_not_isZero hx h, f_sin_of_not_isZero (by rwa [isFinite_fneg]) (by rwa [isZero_fneg]),
      signBit_fneg, fabs_fneg]
    cases signBit x <;> simp

theorem within_f_sin (hx : isFinite x = true) : within Config.negOne Config.one (f_sin x) = true := by
  cases h : isZero x with
  | true =>
    rw [f_sin_of_isZero h, within_iff_value, (value_eq_zero_iff x).2 h]
    exact ⟨rfl, rfl, isNaN_of_isFinite hx, by decide, by decide⟩
  | false =>
    have hpos := within_sinOfPositive (fabs x)
    rw [f_sin_of_not_isZero hx h]
    split
    · have hneg := within_fneg hpos
      rwa [show fneg Config.one = Config.negOne from rfl,
        show fneg Config.negOne = Config.one from rfl] at hneg
    · exact hpos

theorem f_cos_of_isZero (h : isZero x = true) : f_cos x = Config.one := by
  simp [f_cos, isFinite_of_isZero h, h]

theorem f_cos_of_not_isZero (hx : isFinite x = true) (h : isZero x = false) :
    f_cos x = cosOfPositive (fabs x) := by
  simp [f_cos, hx, h]

theorem f_cos_fneg (hx : isFinite x = true) : f_cos (fneg x) = f_cos x := by
  cases h : isZero x with
  | true => rw [f_cos_of_isZero h, f_cos_of_isZero (by rwa [isZero_fneg])]
  | false =>
    rw [f_cos_of_not_isZero hx h, f_cos_of_not_isZero (by rwa [isFinite_fneg]) (by rwa [isZero_fneg]),
      fabs_fneg]

theorem within_f_cos (hx : isFinite x = true) : within Config.negOne Config.one (f_cos x) = true := by
  cases h : isZero x with
  | true =>
    rw [f_cos_of_isZero h]
    decide
  | false =>
    rw [f_cos_of_not_isZero hx h]
    exact within_cosOfPositive _

theorem isNaN_trig_of_not_isFinite (hx : isFinite x = false) :
    isNaN (f_sin x) = true ∧ isNaN (f_cos x) = true := by
  simp [f_sin, f_cos, hx, isNaN_asNaN]

theorem f_db2lin_of_isZero (h : isZero x = true) : f_db2lin x = Config.one := by
  have hin : within dbDomainMin dbDomainMax x = true := by
    rw [within_iff_value, (value_eq_zero_iff x).2 h]
    exact ⟨rfl, rfl, isNaN_of_isFinite (isFinite_of_isZero h), by decide, by decide⟩
  rw [f_db2lin, if_pos hin, if_pos h]

end

/-- Settles O55: the ranges are those of the clamps, the parity that of the reduction to the magnitude. -/
theorem transcendentalContracts : Obligations.TranscendentalContracts := by
  unfold Obligations.TranscendentalContracts
  exact ⟨fun _ h => finite_pos_of_within rfl rfl (by decide) (within_f_tan h),
    ⟨f_sin_of_isZero rfl, f_sin_of_isZero rfl⟩, fun _ hx => ⟨f_sin_fneg hx, within_f_sin hx⟩,
    fun _ => isNaN_trig_of_not_isFinite, ⟨f_cos_of_isZero rfl, f_cos_of_isZero rfl⟩,
    fun _ hx => ⟨f_cos_fneg hx, within_f_cos hx⟩, ⟨f_db2lin_of_isZero rfl, f_db2lin_of_isZero rfl⟩,
    fun _ h => finite_pos_of_within rfl rfl (by decide) (within_f_db2lin h)⟩

end Sys2Proof.Machine
end

section
/-! PROOF. What the coefficient updater binds (45_coefficient_update.md R190 to R204): each coefficient slot
after it, one part of the updater after another, and with the activity bits and the scalars the whole
binding. -/

namespace Sys2Proof.Machine

/-! ## The coefficient slots -/

theorem getCoef_setCoef (s : State) (n m : Nat) (c : Coefs) (hn : n < 9) :
    (s.setCoef n c).getCoef m = if m = n then c else s.getCoef m := by
  unfold State.getCoef
  rw [State.setCoef_coef, Vector.getElem?_setIfInBounds]
  by_cases h : n = m
  · rw [if_pos h, if_pos hn, if_pos h.symm, Option.getD_some]
  · rw [if_neg h, if_neg (Ne.symm h)]

/-- Of the slots, the `len` from `base` on are written; every other one is as it was. -/
theorem getCoef_foldl_setCoef (f : Nat → Coefs) (base m : Nat) (s : State) (len : Nat)
    (hlen : base + len ≤ 9) :
    ((List.range len).foldl (fun s j => s.setCoef (base + j) (f j)) s).getCoef m =
      if base ≤ m ∧ m < base + len then f (m - base) else s.getCoef m := by
  induction len with
  | zero => rw [if_neg (by omega)]; rfl
  | succ len ih =>
    rw [List.range_succ, List.foldl_append, List.foldl_cons, List.foldl_nil,
      getCoef_setCoef _ _ _ _ (by omega), ih (by omega)]
    by_cases hm : m = base + len
    · subst hm
      simp
    · rw [if_neg hm]
      exact if_congr (by omega) rfl rfl

@[simp] theorem bindActive_coef (base n : Nat) (s : State) : (bindActive base n s).coef = s.coef := by
  rw [bindActive_frame]

@[simp] theorem bindCut_fs (P : Params) (k : Site) (base : Nat) (fc : Word) (q : Nat) (t : CutType)
    (s : State) : (bindCut P k base fc q t s).fs = s.fs := by rw [bindCut_frame]

/-- A cut filter writes the slots of its active sections and keeps those of the bypassed ones (R194). -/
theorem getCoef_bindCut (P : Params) (k : Site) (base : Nat) (fc : Word) (q : Nat) (t : CutType)
    (s : State) (m : Nat) (hq : base + (q + 1) ≤ 9) :
    (bindCut P k base fc q t s).getCoef m =
      if base ≤ m ∧ m < base + (q + 1) then
        cutSection ((m - base) :: 0 :: k) t (warpedCutoff P (1 :: k) fc s.fs) (P.invq (q + 1) (m - base))
      else s.getCoef m := by
  have hkeep : (bindActive base (q + 1) s).getCoef m = s.getCoef m := by
    unfold State.getCoef
    rw [bindActive_coef]
  rw [← hkeep]
  exact getCoef_foldl_setCoef (fun j => cutSection (j :: 0 :: k) t (warpedCutoff P (1 :: k) fc s.fs)
    (P.invq (q + 1) j)) base m _ (q + 1) hq

/-- The peak filter writes its own slot alone (R200). -/
theorem getCoef_bindPeak (P : Params) (k : Site) (fc gdb q : Word) (s : State) (m : Nat) :
    (bindPeak P k fc gdb q s).getCoef m =
      if m = 4 then
        peakSection (1 :: k) (P.db2lin gdb) (P.sin (peakOmega (0 :: k) fc s.fs))
          (P.cos (peakOmega (0 :: k) fc s.fs)) q
      else s.getCoef m :=
  getCoef_setCoef s 4 m _ (by decide)

theorem snapshot_lcq_le (P : Params) (s : State) : (snapshot P s).lcq ≤ 3 := by
  rw [snapshot_lcq]
  exact Nat.min_le_right _ _

theorem snapshot_hcq_le (P : Params) (s : State) : (snapshot P s).hcq ≤ 3 := by
  rw [snapshot_hcq]
  exact Nat.min_le_right _ _

/-- Every coefficient slot after the updater: the peak section's, those of the active sections of either
cascade, and the rest as they were. -/
theorem getCoef_updateProc (P : Params) (k : Site) (s : State) (m : Nat) :
    (updateProc P k s).getCoef m =
      if m = 4 then
        peakSection (1 :: 2 :: k) (P.db2lin (snapshot P s).pkg)
          (P.sin (peakOmega (0 :: 2 :: k) (snapshot P s).pkf s.fs))
          (P.cos (peakOmega (0 :: 2 :: k) (snapshot P s).pkf s.fs)) (snapshot P s).pkq
      else if 5 ≤ m ∧ m < 5 + ((snapshot P s).hcq + 1) then
        lowpassSection ((m - 5) :: 0 :: 1 :: k) (warpedCutoff P (1 :: 1 :: k) (snapshot P s).hcf s.fs)
          (P.invq ((snapshot P s).hcq + 1) (m - 5))
      else if m < (snapshot P s).lcq + 1 then
        highpassSection (m :: 0 :: 0 :: k) (warpedCutoff P (1 :: 0 :: k) (snapshot P s).lcf s.fs)
          (P.invq ((snapshot P s).lcq + 1) m)
      else s.getCoef m := by
  have hlcq := snapshot_lcq_le P s
  have hhcq := snapshot_hcq_le P s
  have hlow := getCoef_bindCut P (0 :: k) 0 (snapshot P s).lcf (snapshot P s).lcq .highpass s m (by omega)
  have hhigh := getCoef_bindCut P (1 :: k) 5 (snapshot P s).hcf (snapshot P s).hcq .lowpass
    (bindCut P (0 :: k) 0 (snapshot P s).lcf (snapshot P s).lcq .highpass s) m (by omega)
  have hpeak := getCoef_bindPeak P (2 :: k) (snapshot P s).pkf (snapshot P s).pkg (snapshot P s).pkq
    (bindCut P (1 :: k) 5 (snapshot P s).hcf (snapshot P s).hcq .lowpass
      (bindCut P (0 :: k) 0 (snapshot P s).lcf (snapshot P s).lcq .highpass s)) m
  simp only [Nat.zero_le, true_and, Nat.zero_add, Nat.sub_zero] at hlow
  rw [hhigh, hlow, bindCut_fs, bindCut_fs] at hpeak
  exact hpeak

/-! ## The binding -/

/-- A kind number fits the four bits of `KINDR` (10_state.md R29). -/
theorem toNat_kindr_updateProc (k : Site) (s : State) :
    (updateProc .reference k s).kindr.toNat = (snapshot .reference s).knd := by
  have hkind : (snapshot .reference s).knd < 9 := kindsel_lt (by decide) _
  change (BitVec.ofNat 4 (snapshot .reference s).knd).toNat = _
  rw [BitVec.toNat_ofNat]
  omega

/-- The updater binds from the parameters and the sample rate of the state it is run on (R190). -/
theorem updateProc_boundFrom (k : Site) (s : State) :
    (updateProc .reference k s).BoundFrom .reference s where
  preg := rfl
  postg := rfl
  biasr := rfl
  amtr := rfl
  kindr := toNat_kindr_updateProc k s
  mixt := rfl
  lowActive := updateProc_activePrefix_low .reference k s
  highActive := updateProc_activePrefix_high .reference k s
  peakActive := updateProc_peakActive .reference k s
  low j hj := by
    have hlcq := snapshot_lcq_le .reference s
    rw [getCoef_updateProc, if_neg (by omega), if_neg (by omega), if_pos (by omega)]
    exact ⟨_, _, rfl⟩
  high j hj := by
    rw [getCoef_updateProc, if_neg (by omega), if_pos (by omega), Nat.add_sub_cancel_left]
    exact ⟨_, _, rfl⟩
  peak := by
    rw [getCoef_updateProc, if_pos rfl]
    exact ⟨_, _, rfl⟩
  lowKept j hj hkept := by
    rw [getCoef_updateProc, if_neg (by omega), if_neg (by omega), if_neg (by omega)]
  highKept j hj hkept := by
    have hlcq := snapshot_lcq_le .reference s
    rw [getCoef_updateProc, if_neg (by omega), if_neg (by omega), if_neg (by omega)]

/-- What is bound, and from what, is read off the binding of the one state and off the parameters, the sample
rate and the kept slots and bits of the other. -/
theorem State.BoundFrom.congr {P : Params} {s s' t t' : State} (h : t.BoundFrom P s)
    (hbinding : t' = t'.withBinding t)
    (hsource : s' = { s' with par := s.par, fs := s.fs, coef := s.coef, act := s.act }) :
    t'.BoundFrom P s' := by
  rw [hbinding, hsource]
  exact ⟨h.preg, h.postg, h.biasr, h.amtr, h.kindr, h.mixt, h.lowActive, h.highActive, h.peakActive, h.low,
    h.high, h.peak, h.lowKept, h.highKept⟩

end Sys2Proof.Machine
end

section
/-! PROOF. The session commands NOP, RESET and PREPARE (41_session_ops.md R120 to R122): what each makes of the
state when it completes, and the session that `PREPARE` opens. -/

namespace Sys2Proof.Machine

/-! ## `PREPARE` (R122) -/

section
variable (nch maxblk : Nat) (fs : Word) (s : State)

/-- With legal arguments `PREPARE` takes effect and answers `OK(0)`. -/
theorem exec_prepare (hs : s.Ready) (hargs : prepareArgsOk .reference nch maxblk fs = true) :
    exec (.prepare nch maxblk fs) s =
      .next ((commandEffect .reference (.prepare nch maxblk fs) s).respond (.ok 0)) :=
  congrArg _ (runCommand_completes _ _ _ _ _ hs (by rw [hargs]; rfl))

/-- `PREPARE` writes the session registers, `Z`, `BUF`, the binding and `MIXCUR`, and nothing else but the
model's own counter. -/
theorem commandEffect_prepare_frame (P : Params) : commandEffect P (.prepare nch maxblk fs) s =
    { s.withBinding (commandEffect P (.prepare nch maxblk fs) s) with
      prepared := true, fs := fs, nch := BitVec.ofNat 2 nch, maxblk := BitVec.ofNat 16 maxblk
      z := zCleared, buf := [], mixcur := (commandEffect P (.prepare nch maxblk fs) s).mixt
      freeIx := s.freeIx + 1 } := by
  simp only [commandEffect]
  have hframe := updateProc_frame P s.site (openSession nch maxblk fs s.draw)
  generalize updateProc P s.site (openSession nch maxblk fs s.draw) = u at hframe ⊢
  rw [hframe]
  rfl

/-- `PREPARE` binds from the parameters at the new sample rate. -/
theorem commandEffect_prepare_boundFrom : (commandEffect .reference (.prepare nch maxblk fs) s).BoundFrom .reference
    { s with fs := fs } := by
  have hbound := updateProc_boundFrom s.site (openSession nch maxblk fs s.draw)
  simp only [commandEffect]
  generalize updateProc .reference s.site (openSession nch maxblk fs s.draw) = u at hbound ⊢
  exact hbound.congr rfl rfl

end

theorem toNat_ofNat_nch {nch : Nat} (h : nch = 1 ∨ nch = 2) : (BitVec.ofNat 2 nch).toNat = nch := by
  obtain rfl | rfl := h <;> rfl

theorem toNat_ofNat_maxblk {maxblk : Nat} (h : maxblk ≤ 4096) :
    (BitVec.ofNat 16 maxblk).toNat = maxblk := by
  rw [BitVec.toNat_ofNat]
  omega

/-- Settles O19: `PREPARE` opens the session, runs the updater in it and settles the mix. -/
theorem prepareCompletes : Obligations.PrepareCompletes := by
  unfold Obligations.PrepareCompletes
  intro s nch maxblk fs hs hnch hpos hcap hfs
  have hargs := (prepareArgsOk_reference_iff nch maxblk fs).2 ⟨hnch, ⟨hpos, hcap⟩, hfs⟩
  refine ⟨_, exec_prepare nch maxblk fs s hs hargs, ?_⟩
  have hbound := commandEffect_prepare_boundFrom nch maxblk fs s
  have hframe := commandEffect_prepare_frame nch maxblk fs s .reference
  generalize commandEffect .reference (.prepare nch maxblk fs) s = u at hbound hframe ⊢
  refine ⟨?_, ?_, ?_, ?_, ?_, hbound.congr rfl rfl⟩
  all_goals rw [hframe]
  · rfl
  · exact toNat_ofNat_nch hnch
  · exact toNat_ofNat_maxblk hcap
  · exact reset_getZ
  · exact fun _ => rfl

/-! ## `RESET` (R121) -/

/-- Settles O10: the block is as after reset, and the answer is added to those already given. -/
theorem resetCompletes : Obligations.ResetCompletes := by
  unfold Obligations.ResetCompletes
  intro s
  refine ⟨_, exec_reset s, ?_⟩
  rw [resetBlock_eq_resetBut, respond_resetBut]
  rfl

/-! ## `NOP` (R120) -/

/-- Settles O18: `NOP` checks nothing and has no effect but its answer. -/
theorem nopCompletes : Obligations.NopCompletes := by
  unfold Obligations.NopCompletes
  intro s hs
  exact congrArg _ (runCommand_completes .nop [] s 0 s hs firstFault_nil)

end Sys2Proof.Machine
end

section
/-! PROOF. The parameter and status commands SETP, GETP, TCDIRTY, RDCOEF and RDSR (42_parameter_ops.md R130 to
R135): what each answers, and what it leaves of the state. -/

namespace Sys2Proof.Machine

/-! ## `SETP` (R130) -/

theorem getPar_setPar_of_ne (s : State) {p q : Nat} (v : Word) (hne : q ≠ p) :
    (s.setPar p v).getPar q = s.getPar q := by
  unfold State.getPar
  rw [State.setPar_par, Vector.getElem?_setIfInBounds_ne hne.symm]

/-- Settles O20: after the write, register p holds the value and every other one reads as before. -/
theorem setpCompletes : Obligations.SetpCompletes := by
  unfold Obligations.SetpCompletes
  intro s p v hs hp
  refine ⟨_, exec_setp hs hp v, rfl, ?_, ?_⟩
  · exact getPar_setPar_same s v (Nat.lt_succ_of_le hp)
  · exact fun q hne => getPar_setPar_of_ne s v hne

/-! ## `GETP` (R131) -/

/-- Settles O21: with the index in range, `GETP` has no effect but its answer. -/
theorem getpCompletes : Obligations.GetpCompletes := by
  unfold Obligations.GetpCompletes
  intro s p hs hp
  exact exec_getp hs hp

/-! ## `TCDIRTY` (R132) -/

theorem exec_tcdirty {s : State} (hs : s.Ready) :
    exec .tcdirty s = .next ((s.setDirty false).respond (.ok (flagWord s.dirty))) :=
  congrArg _ (runCommand_completes .tcdirty [] _ _ s hs firstFault_nil)

theorem flagWord_eq_ite (b : Bool) : flagWord b = if b then 1 else 0 := by cases b <;> rfl

/-- Settles O23: the answer is the flag as it was before the command cleared it. -/
theorem tcdirtyCompletes : Obligations.TcdirtyCompletes := by
  unfold Obligations.TcdirtyCompletes
  intro s hs
  rw [exec_tcdirty hs, flagWord_eq_ite]
  rfl

/-! ## `RDCOEF` (R134) -/

theorem exec_rdcoef {s : State} (hs : s.Ready) {n k : Nat} (hn : n < 9) (hk : k < 5) :
    exec (.rdcoef n k) s = .next (s.respond (.ok ((s.getCoef n).get k))) := by
  have hindex : coefIndexOk .reference n k = true :=
    Bool.and_eq_true_iff.2 ⟨decide_eq_true hn, decide_eq_true hk⟩
  exact congrArg _ (runCommand_completes _ _ _ _ _ hs (by rw [hindex]; rfl))

/-- The coefficients of a section in the order of their indices (R31). -/
theorem getElem?_coefs (c : Coefs) : ∀ {k : Nat}, k < 5 →
    [c.b0, c.b1, c.b2, c.a1, c.a2][k]? = some (c.get k)
  | 0, _ | 1, _ | 2, _ | 3, _ | 4, _ => rfl

theorem getCoef_of_getElem?_eq_some {s : State} {n : Nat} {c : Coefs} (hc : s.coef[n]? = some c) :
    s.getCoef n = c := by
  unfold State.getCoef
  rw [hc, Option.getD_some]

/-- Settles O24: the activity bit of the section plays no part; a section that exists has its index in
range. -/
theorem rdcoefCompletes : Obligations.RdcoefCompletes := by
  unfold Obligations.RdcoefCompletes
  intro s n k c hs hk hc
  have hn : n < 9 := (Vector.getElem?_eq_some_iff.1 hc).1
  have hk5 : k < 5 := Nat.lt_succ_of_le hk
  refine ⟨c.get k, getElem?_coefs c hk5, ?_⟩
  rw [exec_rdcoef hs hn hk5, getCoef_of_getElem?_eq_some hc]
  rfl

/-! ## `RDSR` (R135) -/

/-- `RDSR` of a register that exists completes in every state, since it does not look at `FAULT`
(60_exceptions.md R228). -/
theorem exec_rdsr (s : State) {r : Nat} (hr : r ≤ 12) :
    exec (.rdsr r) s = .next (s.respond (.ok (sysReg .reference r s))) := by
  have hindex : srIndexOk r = true := decide_eq_true (Nat.lt_succ_of_le hr)
  exact congrArg _ (if_pos hindex)

/-- Settles O25: `RDSR` has no effect but its answer, faulted or not. -/
theorem rdsrCompletes : Obligations.RdsrCompletes := by
  unfold Obligations.RdsrCompletes
  intro s r hr
  exact exec_rdsr s hr

end Sys2Proof.Machine
end

section
/-! PROOF. The commands PUT and GET (43_signal_chain.md R140, R142): one word of `BUF` written, or answered. -/

namespace Sys2Proof.Machine

section
variable {s : State} {c i : Nat}

theorem sampleChecks_hold (hs : s.ReadyInSession) (hc : c < s.nch.toNat) (hi : i < s.maxblk.toNat) :
    firstFault [(s.prepared, .unprepared), (sampleIndexOk c i s, .index)] = none := by
  have hindex : sampleIndexOk c i s = true :=
    Bool.and_eq_true_iff.2 ⟨decide_eq_true hc, decide_eq_true hi⟩
  rw [hs.2, hindex]
  rfl

theorem exec_put (hs : s.ReadyInSession) (hc : c < s.nch.toNat) (hi : i < s.maxblk.toNat) (x : Word) :
    exec (.put c i x) s = .next ((s.setBuf c i x).respond (.ok 0)) :=
  congrArg _ (runCommand_completes _ _ _ _ _ hs.1 (sampleChecks_hold hs hc hi))

theorem exec_get (hs : s.ReadyInSession) (hc : c < s.nch.toNat) (hi : i < s.maxblk.toNat) :
    exec (.get c i) s = .next (s.respond (.ok (s.getBuf c i))) :=
  congrArg _ (runCommand_completes _ _ _ _ _ hs.1 (sampleChecks_hold hs hc hi))

end

/-- Settles O27: the effect is one write to `BUF`, which the rules of the store describe. -/
theorem putCompletes : Obligations.PutCompletes := by
  unfold Obligations.PutCompletes
  intro s c i x hs hwf hc hi
  exact ⟨_, exec_put hs hc hi x, rfl, Mem.write_wf _ _ _ hwf, Mem.read_write_same _ _ _ hwf,
    fun key hne => Mem.read_write_other _ _ _ _ hne⟩

/-- Settles O28: with the indices in the session, `GET` has no effect but its answer. -/
theorem getCompletes : Obligations.GetCompletes := by
  unfold Obligations.GetCompletes
  intro s c i hs hc hi
  exact exec_get hs hc hi

end Sys2Proof.Machine
end

section
/-! PROOF. One section and the cascades (43_signal_chain.md R143 to R146): the section with the reset
coefficients, and what a bypassed section leaves alone. -/

namespace Sys2Proof.Machine

/-! ## The section with the reset coefficients (R143) -/

/-- A product with +0.0 is a zero of the other factor's sign. -/
theorem fmul_zero_left (k : Site) {a : Word} (ha : isFinite a = true) : fmul k 0 a = zeroOf (signBit a) := by
  rw [fmul_of_isFinite k rfl ha, show mag 0 = 0 from rfl, Nat.zero_mul, roundTo_zero,
    show signBit 0 = false from rfl, Bool.false_bne]

theorem one_fmul (k : Site) {a : Word} (ha : isNaN a = false) : fmul k 0x3F800000#32 a = a :=
  (fmul_comm k _ a).trans (fmul_one k ha)

theorem isFinite_zeroOf (neg : Bool) : isFinite (zeroOf neg) = true :=
  isFinite_of_isZero (isZero_zeroOf neg)

/-- The reset coefficients with cleared delay values pass every number but -0.0. -/
theorem biquad_identity_fst (k : Site) {x : Word} (hnan : isNaN x = false) (hne : x ≠ 0x80000000#32) :
    (biquad k Coefs.identity ⟨0, 0⟩ x).1 = x :=
  (congrArg (fadd (0 :: k) · 0) (one_fmul (1 :: k) hnan)).trans (fadd_zero (0 :: k) hnan hne)

theorem biquad_identity_of_isFinite (k : Site) {x : Word} (hx : isFinite x = true)
    (hne : x ≠ 0x80000000#32) : biquad k Coefs.identity ⟨0, 0⟩ x = (x, ⟨0, 0⟩) := by
  have hy := biquad_identity_fst k (isNaN_of_isFinite hx) hne
  have hzero (k' : Site) : fmul k' Config.zero x = zeroOf (signBit x) := fmul_zero_left k' hx
  have hcancel (k' : Site) : fsub k' (zeroOf (signBit x)) (zeroOf (signBit x)) = 0 :=
    fsub_self k' (isFinite_zeroOf _)
  simp only [biquad, Coefs.identity] at hy ⊢
  rw [hy, hzero, hzero, hzero, hzero, hcancel, hcancel]
  rfl

/-- At an infinity the products with the zero coefficients are NaNs (R157). -/
theorem isNaN_biquad_identity_of_isInf (k : Site) {x : Word} (hx : isInf x = true) :
    isNaN (biquad k Coefs.identity ⟨0, 0⟩ x).2.z1 = true := by
  have hproduct : isNaN (fmul (4 :: k) Config.zero x) = true := by
    rw [fmul_comm]
    exact isNaN_fmul_inf_of_isZero _ hx rfl
  exact isNaN_fadd_of_isNaN _ (.inl (isNaN_fsub_of_isNaN _ (.inl hproduct)))

/-- At -0.0 the output is +0.0, and the sum behind the second delay value has two negative zeros (log 20). -/
theorem biquad_identity_negZero (k : Site) :
    biquad k Coefs.identity ⟨0, 0⟩ 0x80000000#32 = (0, ⟨0, 0x80000000#32⟩) := by
  have hfirst (k' : Site) : fmul k' Config.one 0x80000000#32 = 0x80000000#32 := one_fmul k' rfl
  have hsum (k' : Site) : fadd k' 0x80000000#32 0 = 0 := fadd_of_sum_zero k' rfl rfl rfl
  have hinput (k' : Site) : fmul k' Config.zero 0x80000000#32 = 0x80000000#32 := fmul_zero_left k' rfl
  have houtput (k' : Site) : fmul k' Config.zero 0 = 0 := fmul_zero_left k' rfl
  have hdiff (k' : Site) : fsub k' 0x80000000#32 0 = 0x80000000#32 :=
    fsub_of_difference_zero k' rfl rfl rfl
  simp only [biquad, Coefs.identity, hfirst, hsum, hinput, houtput, hdiff]

/-- Settles O35: one lemma per class of sample. -/
theorem resetSectionBehaviour : Obligations.ResetSectionBehaviour := by
  unfold Obligations.ResetSectionBehaviour
  intro k x
  refine ⟨biquad_identity_of_isFinite k, biquad_identity_negZero k,
    fun hx => ⟨?_, isNaN_biquad_identity_of_isInf k hx⟩⟩
  refine biquad_identity_fst k (isNaN_of_isInf hx) ?_
  rintro rfl
  exact absurd hx (by decide)

/-! ## Bypass (R144 to R146) -/

theorem cascade_eq_foldl_filter (k : Site) (s : State) (base : Nat) (v : Word × Vector Delay 9) :
    cascade k s base v = ((List.range 4).filter (fun j => s.getAct (base + j))).foldl
      (fun v j => sectionStep (j :: k) s (base + j) v) v :=
  List.foldl_filter.symm

/-- A section writes no delay values but its own. -/
theorem sectionStep_delay_of_ne (k : Site) (s : State) {n m : Nat} (v : Word × Vector Delay 9)
    (hne : n ≠ m) : (sectionStep k s n v).2[m]? = v.2[m]? :=
  Vector.getElem?_setIfInBounds_ne hne

theorem cascade_delay_of_inactive (k : Site) {s : State} (base : Nat) {m : Nat}
    (v : Word × Vector Delay 9) (hm : s.getAct m = false) : (cascade k s base v).2[m]? = v.2[m]? := by
  refine foldl_keeps (fun w : Word × Vector Delay 9 => w.2[m]? = v.2[m]?) _ _ _ rfl ?_
  intro w j hw
  split
  next hactive =>
    have hne : base + j ≠ m := by
      rintro rfl
      exact absurd hactive (by simp [hm])
    rw [sectionStep_delay_of_ne _ _ _ hne, hw]
  next => exact hw

theorem chainSample_delay_of_inactive (P : Params) (k : Site) {s : State} (zs : Vector Delay 9) (x : Word)
    {m : Nat} (hm : s.getAct m = false) (hpeak : m ≠ 4) : (chainSample P k s zs x).2[m]? = zs[m]? := by
  simp only [chainSample]
  rw [cascade_delay_of_inactive _ _ _ hm, sectionStep_delay_of_ne _ _ _ hpeak.symm,
    cascade_delay_of_inactive _ _ _ hm]

theorem filter_lt_range_four {n : Nat} (hn : n ≤ 4) :
    (List.range 4).filter (fun j => decide (j < n)) = List.range n := by
  interval_cases n <;> rfl

/-- Settles O36: each shape of a cascade is that of the list of its active sections. -/
theorem bypassIsIdentity : Obligations.BypassIsIdentity := by
  unfold Obligations.BypassIsIdentity
  refine ⟨cascade_eq_foldl_filter, fun k s base n v hn hact => ?_, fun k s base v hact => ?_,
    fun k s zs x n hn hpeak => chainSample_delay_of_inactive _ k zs x hn hpeak⟩
  · rw [cascade_eq_foldl_filter, List.filter_congr hact, filter_lt_range_four hn]
  · have hnone : (List.range 4).filter (fun j => s.getAct (base + j)) = [] :=
      List.filter_eq_nil_iff.2 fun j hj => by simp [hact j (List.mem_range.1 hj)]
    rw [cascade_eq_foldl_filter, hnone, List.foldl_nil]

end Sys2Proof.Machine
end

section
/-! PROOF. The mixer (43_signal_chain.md R152 to R154): at either end of the mix the other sample is
multiplied by a zero, and a settled mix adds a zero to itself. -/

namespace Sys2Proof.Machine

/-! ## Sums with a zero -/

theorem feq_iff {a b : Word} :
    feq a b = true ↔ isNaN a = false ∧ isNaN b = false ∧ value a = value b := by
  simp [feq, and_assoc]

theorem feq_refl {a : Word} (ha : isNaN a = false) : feq a a = true := feq_iff.2 ⟨ha, ha, rfl⟩

theorem isFinite_of_feq {a b : Word} (h : feq a b = true) (hb : isFinite b = true) :
    isFinite a = true := by
  obtain ⟨ha, hnan, hval⟩ := feq_iff.1 h
  exact isFinite_of_within hb hb (within_iff_value.2 ⟨hnan, hnan, ha, hval.ge, hval.le⟩)

theorem feq_of_isZero {a b : Word} (ha : isZero a = true) (hb : isZero b = true) : feq a b = true :=
  feq_iff.2 ⟨isNaN_of_isFinite (isFinite_of_isZero ha), isNaN_of_isFinite (isFinite_of_isZero hb),
    ((value_eq_zero_iff a).2 ha).trans ((value_eq_zero_iff b).2 hb).symm⟩

theorem isZero_of_feq {a b : Word} (h : feq a b = true) (hb : isZero b = true) : isZero a = true := by
  obtain ⟨-, -, hval⟩ := feq_iff.1 h
  rw [← value_eq_zero_iff, hval, value_eq_zero_iff, hb]

/-- Adding a zero of either sign leaves the value as it is. -/
theorem feq_fadd_of_isZero (k : Site) {a b : Word} (ha : isNaN a = false) (hb : isZero b = true) :
    feq (fadd k a b) a = true := by
  cases hzero : isZero a with
  | false =>
    rw [fadd_of_isZero_right k ha hzero hb]
    exact feq_refl ha
  | true =>
    have hfin := isFinite_of_isZero hzero
    refine (correctlyRounded_fadd k hfin (isFinite_of_isZero hb)).feq_value hfin ?_
    rw [(value_eq_zero_iff b).2 hb, Int.cast_zero, add_zero]

/-- A product with a zero of either sign is a zero. -/
theorem isZero_fmul_of_isZero (k : Site) {a b : Word} (ha : isFinite a = true) (hb : isZero b = true) :
    isZero (fmul k a b) = true := by
  have hmag : mag b = 0 := by simpa [isZero] using hb
  rw [fmul_of_isFinite k ha (isFinite_of_isZero hb), hmag, Nat.mul_zero, roundTo_zero, isZero_zeroOf]

theorem isZero_fsub_of_value_eq (k : Site) {a b : Word} (ha : isFinite a = true) (hb : isFinite b = true)
    (h : value a = value b) : isZero (fsub k a b) = true := by
  rw [fsub_of_difference_zero k ha hb (sub_eq_zero.2 h)]
  split <;> rfl

/-! ## The ends of the mix (R152, R154) -/

/-- With the mix at a zero of either sign the dry sample is passed in value. -/
theorem feq_mix_of_isZero (k : Site) {dry wet m : Word} (hdry : isNaN dry = false)
    (hwet : isFinite wet = true) (hm : isZero m = true) : feq (mix k dry wet m) dry = true := by
  have hfull : fsub (2 :: k) Config.one m = 0x3F800000#32 :=
    fadd_of_isZero_right _ rfl rfl (by rwa [isZero_fneg])
  rw [mix, hfull, fmul_one _ hdry]
  exact feq_fadd_of_isZero _ hdry (isZero_fmul_of_isZero _ hwet hm)

theorem feq_mix_one (k : Site) {dry wet : Word} (hdry : isFinite dry = true) (hwet : isNaN wet = false) :
    feq (mix k dry wet 0x3F800000#32) wet = true := by
  have hnone : fsub (2 :: k) Config.one 0x3F800000#32 = 0 := fsub_self _ rfl
  rw [mix, hnone, fmul_one _ hwet, fadd_comm]
  exact feq_fadd_of_isZero _ hwet (isZero_fmul_of_isZero _ hdry rfl)

/-- Settles O41: at m = 1.0 the factor of the dry sample is +0.0. -/
theorem mixEnds : Obligations.MixEnds := by
  unfold Obligations.MixEnds
  intro k dry wet
  exact ⟨fun hdry hwet => feq_mix_of_isZero k hdry hwet rfl, feq_mix_one k⟩

/-! ## The settled ramp (R153) -/

/-- The place of a sample in its block, as a fraction of the block, is finite: it is at most 1. -/
theorem isFinite_fdiv_u2f (k : Site) {n i : Nat} (hn : n ≤ 2 ^ 24) (hi : i < n) :
    isFinite (fdiv k (u2f (i + 1)) (u2f n)) = true := by
  obtain ⟨hfinNum, hnum⟩ := u2f_exact (n := i + 1) (by omega)
  obtain ⟨hfinDen, hden⟩ := u2f_exact hn
  have hnonzero : isZero (u2f n) = false := by
    rw [← Bool.not_eq_true, ← value_eq_zero_iff, hden]
    omega
  have hpos : (0 : ℝ) < n := by exact_mod_cast (by omega : 0 < n)
  have hle : ((i + 1 : Nat) : ℝ) ≤ n := by exact_mod_cast hi
  have hunit : (0 : ℝ) < 2 ^ 149 := by positivity
  have hquot : ((i + 1 : Nat) : ℝ) * 2 ^ 149 * 2 ^ 149 / (n * 2 ^ 149) ≤ 2 ^ 149 := by
    rw [div_le_iff₀ (mul_pos hpos hunit), mul_comm (2 ^ 149 : ℝ)]
    gcongr
  obtain ⟨-, hfin, -, -⟩ := correctlyRounded_fdiv k hfinNum hfinDen hnonzero
  rw [hfin, hnum, hden, Int.cast_mul, Int.cast_mul, Int.cast_pow, Int.cast_ofNat, Int.cast_natCast,
    Int.cast_natCast, abs_of_nonneg (by positivity)]
  exact hquot.trans_lt (by norm_num)

/-- The ramp adds to the start value a product with the zero difference of equal ends. -/
theorem feq_rampValue (k : Site) {m0 mixt : Word} {n i : Nat} (hm0 : isFinite m0 = true)
    (hmixt : feq mixt m0 = true) (hn : n ≤ 2 ^ 24) (hi : i < n) :
    feq (rampValue k m0 mixt n i) m0 = true := by
  obtain ⟨-, -, hval⟩ := feq_iff.1 hmixt
  have hdiff : isZero (fsub (2 :: k) mixt m0) = true :=
    isZero_fsub_of_value_eq _ (isFinite_of_feq hmixt hm0) hm0 hval
  rw [rampValue, fmul_comm]
  exact feq_fadd_of_isZero _ (isNaN_of_isFinite hm0)
    (isZero_fmul_of_isZero _ (isFinite_fdiv_u2f _ hn hi) hdiff)

/-- Settles O42: the block is shorter than the integers that convert exactly. -/
theorem settledRampIsConstant : Obligations.SettledRampIsConstant := by
  unfold Obligations.SettledRampIsConstant
  intro k m0 mixt n i hm0 hmixt hn hi
  exact feq_rampValue k hm0 hmixt (by omega) hi

end Sys2Proof.Machine
end

section
/-! PROOF. The wet sample (43_signal_chain.md R148 to R151): whatever reaches the waveshaper, its result is
clamped, and the gains after it cannot make it overflow. -/

namespace Sys2Proof.Machine

/-- Every kind of waveshaper ends in the output clamp (44_waveshaper.md R172). -/
theorem exists_shape_eq_sat1 (sin cos : Word → Word) (k : Site) (kind : Kind) (x a : Word) :
    ∃ v, shape sin cos k kind x a = sat1 v := by
  cases kind with
  | warm =>
    simp only [shape, shapeWarm]
    split <;> exact ⟨_, rfl⟩
  | rash =>
    simp only [shape, shapeRash]
    split <;> exact ⟨_, rfl⟩
  | _ => exact ⟨_, rfl⟩

theorem within_sat1 (v : Word) : within Config.negOne Config.one (sat1 v) = true := by
  rw [sat1_eq_clampF]
  exact within_clampF (by decide) (by decide) v

theorem within_shape (sin cos : Word → Word) (k : Site) (kind : Kind) (x a : Word) :
    within Config.negOne Config.one (shape sin cos k kind x a) = true := by
  obtain ⟨v, hv⟩ := exists_shape_eq_sat1 sin cos k kind x a
  rw [hv]
  exact within_sat1 v

/-- A value in [-1, 1] has the magnitude of 1 at most, in units of 2^-149. -/
theorem mag_le_of_within_one {v : Word} (h : within Config.negOne Config.one v = true) :
    mag v ≤ 2 ^ 149 := by
  obtain ⟨-, -, -, hge, hle⟩ := within_iff_value.1 h
  rw [show value Config.negOne = -2 ^ 149 by decide] at hge
  rw [show value Config.one = 2 ^ 149 by decide] at hle
  rw [← natAbs_value]
  omega

/-- A product with a factor in [-1, 1] does not overflow: it is no larger than the other factor. -/
theorem isFinite_fmul_of_within_one (k : Site) {a b : Word}
    (ha : within Config.negOne Config.one a = true) (hb : isFinite b = true) :
    isFinite (fmul k a b) = true := by
  have hfin : isFinite a = true := isFinite_of_within rfl rfl ha
  have hmaga : (mag a : ℝ) ≤ 2 ^ 149 := by exact_mod_cast mag_le_of_within_one ha
  have hmagb : (mag b : ℝ) ≤ ((2 ^ 24 - 1) * 2 ^ 253 : Nat) := by exact_mod_cast mag_le_of_isFinite hb
  have hunit : (0 : ℝ) < 2 ^ 149 := by positivity
  obtain ⟨-, hiff, -, -⟩ := correctlyRounded_fmul k hfin hb
  rw [hiff, abs_div, abs_mul, abs_value, abs_value, abs_of_pos hunit]
  calc (mag a : ℝ) * mag b / (2 ^ 149 : ℝ) ≤ 2 ^ 149 * mag b / (2 ^ 149 : ℝ) := by gcongr
    _ = mag b := mul_div_cancel_left₀ _ hunit.ne'
    _ < (2 ^ 25 - 1) * 2 ^ 252 := hmagb.trans_lt (by norm_num)

/-- After the waveshaper come a makeup gain of 1.0 and a finite post-gain (R151). -/
theorem isFinite_shapeStages (k : Site) {s : State} (hpostg : isFinite s.postg = true) (v : Word) :
    isFinite (shapeStages .reference k s v) = true := by
  have hshape : within Config.negOne Config.one
      (shape f_sin f_cos [] (Kind.ofNumber s.kindr.toNat) (fadd (1 :: k) (fmul (0 :: k) v s.preg) s.biasr)
        s.amtr) = true := within_shape _ _ _ _ _ _
  have hmakeup := fmul_one (2 :: k) (isNaN_of_within _ _ _ hshape)
  refine isFinite_fmul_of_within_one (3 :: k) ?_ hpostg
  rw [← hmakeup] at hshape
  exact hshape

theorem isFinite_postg {s : State} (h : s.Inv) : isFinite s.postg = true := by
  obtain ⟨-, -, -, -, -, -, hpost⟩ := h.scalars
  exact isFinite_of_within (by decide) (by decide) hpost

/-- Settles O43: the wet sample is what the stages after the filters give, at any filter output. -/
theorem wetSampleIsFinite : Obligations.WetSampleIsFinite := by
  unfold Obligations.WetSampleIsFinite
  intro k s zs x h
  exact isFinite_shapeStages (3 :: k) (isFinite_postg h) _

end Sys2Proof.Machine
end

section
/-! PROOF. The block loop of PROCESS (43_signal_chain.md R141, 20_memory.md R64): what the samples and the
delay values of each channel are after one sample, one channel and all channels of a session, and what else
of the state is left alone. -/

namespace Sys2Proof.Machine

/-! ## The delay values of a channel -/

theorem getZ_setZ_same (s : State) {c : Nat} (zs : Vector Delay 9) (hc : c < 2) :
    (s.setZ c zs).getZ c = zs := by
  unfold State.getZ
  rw [State.setZ_z, Vector.getElem?_setIfInBounds, if_pos rfl, if_pos hc, Option.getD_some]

theorem getZ_setZ_of_ne (s : State) {c c' : Nat} (zs : Vector Delay 9) (hne : c' ≠ c) :
    (s.setZ c zs).getZ c' = s.getZ c' := by
  unfold State.getZ
  rw [State.setZ_z, Vector.getElem?_setIfInBounds_ne hne.symm]

/-- A write to a channel that the block does not have is lost (log 18). -/
theorem getZ_setZ_of_ge (s : State) {c : Nat} (zs : Vector Delay 9) (hc : 2 ≤ c) :
    (s.setZ c zs).getZ c = s.getZ c := by
  unfold State.getZ
  rw [State.setZ_z, Vector.getElem?_setIfInBounds, if_pos rfl, if_neg (by omega),
    Vector.getElem?_eq_none hc]

/-! ## One sample -/

section
variable (P : Params) (k : Site) {c : Nat} (n : Nat) (m0 : Word) (s : State) (i : Nat)

/-- The sample is mixed from the dry copy and the chain's answer to it. -/
theorem getBuf_sampleStep (hwf : s.buf.wf) : (sampleStep P k c n m0 s i).getBuf c i =
    mix (2 :: i :: c :: k) (s.getDry c i) (chainSample P (0 :: i :: c :: k) s (s.getZ c) (s.getDry c i)).1
      (rampValue (1 :: i :: c :: k) m0 s.mixt n i) :=
  Mem.read_write_same _ _ _ hwf

theorem read_sampleStep_of_ne {key : Nat} (hne : key ≠ sampleKey c i) :
    (sampleStep P k c n m0 s i).buf.read key = s.buf.read key :=
  Mem.read_write_other _ _ _ _ hne

theorem getZ_sampleStep (hc : c < 2) : (sampleStep P k c n m0 s i).getZ c =
    (chainSample P (0 :: i :: c :: k) s (s.getZ c) (s.getDry c i)).2 :=
  getZ_setZ_same s _ hc

theorem getZ_sampleStep_of_ne {c' : Nat} (hne : c' ≠ c) :
    (sampleStep P k c n m0 s i).getZ c' = s.getZ c' :=
  getZ_setZ_of_ne s _ hne

theorem delay_sampleStep_of_inactive {m : Nat} (hm : s.getAct m = false) (hpeak : m ≠ 4) (c' : Nat) :
    ((sampleStep P k c n m0 s i).getZ c')[m]? = (s.getZ c')[m]? := by
  by_cases hne : c' = c
  · subst hne
    rcases Nat.lt_or_ge c' 2 with hc | hc
    · rw [getZ_sampleStep P k n m0 s i hc]
      exact chainSample_delay_of_inactive P _ _ _ hm hpeak
    · exact congrArg (·[m]?) (getZ_setZ_of_ge s _ hc)
  · rw [getZ_sampleStep_of_ne P k n m0 s i hne]

end

/-! ## The loops -/

/-- The samples `i` to `i + len - 1` of channel `c`, in ascending order. -/
def sampleLoop (P : Params) (k : Site) (c n : Nat) (m0 : Word) (s : State) (i len : Nat) : State :=
  (List.range' i len).foldl (sampleStep P k c n m0) s

/-- The first `m` channels of a block. -/
def blockChannels (P : Params) (k : Site) (n : Nat) (m0 : Word) (s : State) (m : Nat) : State :=
  (List.range m).foldl (processChannel P k n m0) s

section
variable (P : Params) (k : Site) (c n : Nat) (m0 : Word) (s : State)

theorem sampleLoop_succ (i len : Nat) : sampleLoop P k c n m0 s i (len + 1) =
    sampleLoop P k c n m0 (sampleStep P k c n m0 s i) (i + 1) len := rfl

theorem processChannel_eq_sampleLoop :
    processChannel P k n m0 s c = sampleLoop P k c n m0 (copyDry c n s) 0 n := by
  rw [processChannel, List.range_eq_range']
  rfl

theorem copyDry_succ :
    copyDry c (n + 1) s = (copyDry c n s).setDry c n ((copyDry c n s).getBuf c n) := by
  rw [copyDry, List.range_succ, List.foldl_append]
  rfl

theorem blockChannels_succ (m : Nat) : blockChannels P k n m0 s (m + 1) =
    processChannel P k n m0 (blockChannels P k n m0 s m) m := by
  rw [blockChannels, List.range_succ, List.foldl_append]
  rfl

/-- An empty block changes nothing. -/
theorem blockChannels_empty (m : Nat) : blockChannels P k 0 m0 s m = s :=
  foldl_keeps (· = s) _ _ _ rfl fun _ _ hu => hu

end

section
variable {P : Params} {k : Site} {n : Nat} {m0 : Word} {s : State} {p : State → Prop}

/-- What each copied word and each sample of a channel keeps, the channel keeps. -/
theorem processChannel_keeps {c : Nat} (hs : p s)
    (hcopy : ∀ u, ∀ i < n, p u → p (u.setDry c i (u.getBuf c i)))
    (hsample : ∀ u, ∀ i < n, p u → p (sampleStep P k c n m0 u i)) : p (processChannel P k n m0 s c) := by
  refine foldl_keeps_mem p _ _ _ (foldl_keeps_mem p _ _ _ hs ?_) ?_
  · exact fun u i hi hu => hcopy u i (List.mem_range.1 hi) hu
  · exact fun u i hi hu => hsample u i (List.mem_range.1 hi) hu

theorem blockChannels_keeps {m : Nat} (hs : p s)
    (hcopy : ∀ u, ∀ c < m, ∀ i < n, p u → p (u.setDry c i (u.getBuf c i)))
    (hsample : ∀ u, ∀ c < m, ∀ i < n, p u → p (sampleStep P k c n m0 u i)) :
    p (blockChannels P k n m0 s m) := by
  refine foldl_keeps_mem p _ _ _ hs fun u c hc hu => processChannel_keeps hu ?_ ?_
  · exact fun u => hcopy u c (List.mem_range.1 hc)
  · exact fun u => hsample u c (List.mem_range.1 hc)

end

/-! ## What the loop leaves alone -/

section
variable (P : Params) (k : Site) {n : Nat} (m0 : Word) (s : State)

theorem blockChannels_sameBinding (m : Nat) : s.SameBinding (blockChannels P k n m0 s m) :=
  blockChannels_keeps (p := s.SameBinding) ⟨rfl, rfl, rfl, rfl, rfl, rfl, rfl, rfl⟩
    (fun _ _ _ _ _ hu => hu) (fun _ _ _ _ _ hu => hu)

/-- The block is the loop over the channels, and the mix settled unless the block is empty. -/
theorem processBlock_eq_blockChannels : processBlock P k n s =
    { blockChannels P k n s.mixcur s s.nch.toNat with mixcur := if n = 0 then s.mixcur else s.mixt } := by
  unfold processBlock
  split
  next h =>
    subst h
    rw [blockChannels_empty]
  next =>
    obtain ⟨-, -, -, -, -, -, -, hmixt⟩ := blockChannels_sameBinding P k (n := n) s.mixcur s s.nch.toNat
    rw [← hmixt]
    rfl

/-- The words of no sample of the block keep what they hold (20_memory.md R64). -/
theorem read_blockChannels {m key : Nat} (hkey : ∀ c < m, ∀ i < n, key ≠ sampleKey c i) :
    (blockChannels P k n m0 s m).buf.read key = s.buf.read key ∧
      (blockChannels P k n m0 s m).dry.read key = s.dry.read key := by
  refine blockChannels_keeps (p := fun u => u.buf.read key = s.buf.read key ∧
    u.dry.read key = s.dry.read key) ⟨rfl, rfl⟩ ?_ ?_
  · rintro u c hc i hi ⟨hbuf, hdry⟩
    exact ⟨hbuf, (Mem.read_write_other _ _ _ _ (hkey c hc i hi)).trans hdry⟩
  · rintro u c hc i hi ⟨hbuf, hdry⟩
    exact ⟨(read_sampleStep_of_ne P k n m0 u i (hkey c hc i hi)).trans hbuf, hdry⟩

theorem delay_blockChannels_of_inactive (nch : Nat) {m : Nat} (hm : s.getAct m = false) (hpeak : m ≠ 4)
    (c : Nat) : ((blockChannels P k n m0 s nch).getZ c)[m]? = (s.getZ c)[m]? := by
  refine (blockChannels_keeps (p := fun u => u.getAct m = false ∧ (u.getZ c)[m]? = (s.getZ c)[m]?)
    ⟨hm, rfl⟩ (fun u _ _ _ _ hu => hu) ?_).2
  rintro u c' - i - ⟨hact, hz⟩
  exact ⟨hact, (delay_sampleStep_of_inactive P k n m0 u i hact hpeak c).trans hz⟩

end

/-! ## One channel in two states -/

/-- What channel `c` holds is the same in both states. -/
structure State.SameChannel (s t : State) (c : Nat) : Prop where
  buf : ∀ i < 65536, t.getBuf c i = s.getBuf c i
  dry : ∀ i < 65536, t.getDry c i = s.getDry c i
  z : t.getZ c = s.getZ c

theorem State.SameChannel.refl (s : State) (c : Nat) : s.SameChannel s c :=
  ⟨fun _ _ => rfl, fun _ _ => rfl, rfl⟩

theorem State.SameChannel.of_stores {s t : State} (hbuf : t.buf = s.buf) (hdry : t.dry = s.dry)
    (hz : t.z = s.z) (c : Nat) : s.SameChannel t c := by
  refine ⟨fun i _ => ?_, fun i _ => ?_, ?_⟩
  · rw [State.getBuf, hbuf, State.getBuf]
  · rw [State.getDry, hdry, State.getDry]
  · rw [State.getZ, hz, State.getZ]

theorem respond_sameChannel (s : State) (r : Response) (c : Nat) : s.SameChannel (s.respond r) c :=
  ⟨fun _ _ => rfl, fun _ _ => rfl, rfl⟩

theorem State.SameChannel.trans {s t u : State} {c : Nat} (h : s.SameChannel t c)
    (h' : t.SameChannel u c) : s.SameChannel u c :=
  ⟨fun i hi => (h'.buf i hi).trans (h.buf i hi), fun i hi => (h'.dry i hi).trans (h.dry i hi),
    h'.z.trans h.z⟩

section
variable (P : Params) (k : Site) {n : Nat} (m0 : Word) (s : State)

theorem setDry_sameChannel {c c' i : Nat} (hne : c' ≠ c) (hi : i < 65536) (v : Word) :
    s.SameChannel (s.setDry c i v) c' :=
  ⟨fun _ _ => rfl,
    fun _ hj => Mem.read_write_other _ _ _ _ (sampleKey_ne _ _ _ _ hi hj (.inl hne)), rfl⟩

theorem sampleStep_sameChannel {c c' i : Nat} (hne : c' ≠ c) (hi : i < 65536) :
    s.SameChannel (sampleStep P k c n m0 s i) c' :=
  ⟨fun _ hj => read_sampleStep_of_ne P k n m0 s i (sampleKey_ne _ _ _ _ hi hj (.inl hne)),
    fun _ _ => rfl, getZ_sampleStep_of_ne P k n m0 s i hne⟩

/-- Processing one channel leaves every other one alone (R156). -/
theorem processChannel_sameChannel {c c' : Nat} (hne : c' ≠ c) (hn : n ≤ 65536) :
    s.SameChannel (processChannel P k n m0 s c) c' :=
  processChannel_keeps (p := (s.SameChannel · c')) (.refl s c')
    (fun u _ hi hu => hu.trans (setDry_sameChannel u hne (by omega) _))
    fun u _ hi hu => hu.trans (sampleStep_sameChannel P k m0 u hne (by omega))

theorem blockChannels_sameChannel {m c : Nat} (hc : m ≤ c) (hn : n ≤ 65536) :
    s.SameChannel (blockChannels P k n m0 s m) c :=
  foldl_keeps_mem (s.SameChannel · c) _ _ _ (.refl s c) fun u c' hc' hu =>
    hu.trans (processChannel_sameChannel P k m0 u (by have := List.mem_range.1 hc'; omega) hn)

end

theorem inv_blockChannels {s : State} (h : s.Inv) (P : Params) (k : Site) {n : Nat} (m0 : Word) {m : Nat}
    (hm : m ≤ 2) (hn : n ≤ 4096) : (blockChannels P k n m0 s m).Inv :=
  foldl_keeps_mem State.Inv _ _ _ h fun _ _ hc hu =>
    inv_processChannel hu P k m0 (Nat.lt_of_lt_of_le (List.mem_range.1 hc) hm) hn

/-! ## PROCESS (R141) -/

/-- Writing into a state the binding that it has changes nothing. -/
theorem withBinding_of_sameBinding {s t : State} (h : s.SameBinding t) : t.withBinding s = t := by
  obtain ⟨hcoef, hact, hpreg, hbiasr, hamtr, hkindr, hpostg, hmixt⟩ := h
  rw [State.withBinding, ← hcoef, ← hact, ← hpreg, ← hbiasr, ← hamtr, ← hkindr, ← hpostg, ← hmixt]

section
variable (n : Nat) (s : State)

/-- Within the session's block length `PROCESS` takes effect and answers `OK(0)`. -/
theorem exec_process (hs : s.ReadyInSession) (hn : n ≤ s.maxblk.toNat) :
    exec (.process n) s = .next ((commandEffect .reference (.process n) s).respond (.ok 0)) := by
  have hlength : lengthOk n s = true := decide_eq_true hn
  exact congrArg _ (runCommand_completes _ _ _ _ _ hs.1 (by rw [hs.2, hlength]; rfl))

/-- The state in which the block loop of `PROCESS` begins: the updater has run. -/
def processBinding (s : State) : State := updateProc .reference (0 :: s.site) s.draw

@[simp] theorem processBinding_buf : (processBinding s).buf = s.buf := updateProc_buf _ _ _
@[simp] theorem processBinding_dry : (processBinding s).dry = s.dry := updateProc_dry _ _ _
@[simp] theorem processBinding_z : (processBinding s).z = s.z := updateProc_z _ _ _
@[simp] theorem processBinding_nch : (processBinding s).nch = s.nch := updateProc_nch _ _ _
@[simp] theorem processBinding_mixcur : (processBinding s).mixcur = s.mixcur := updateProc_mixcur _ _ _

theorem processBinding_sameChannel (c : Nat) : s.SameChannel (processBinding s) c :=
  .of_stores (processBinding_buf s) (processBinding_dry s) (processBinding_z s) c

theorem processBinding_frame :
    processBinding s = { s.withBinding (processBinding s) with freeIx := s.freeIx + 1 } :=
  updateProc_frame _ _ _

/-- The channels of the session as the block loop of `PROCESS` leaves them. -/
def processedChannels (n : Nat) (s : State) : State :=
  blockChannels .reference (1 :: s.site) n s.mixcur (processBinding s) s.nch.toNat

theorem commandEffect_process : commandEffect .reference (.process n) s =
    { processedChannels n s with mixcur := if n = 0 then s.mixcur else (processBinding s).mixt } := by
  have h := processBlock_eq_blockChannels .reference (1 :: s.site) (n := n) (processBinding s)
  rwa [processBinding_mixcur, processBinding_nch] at h

/-- `PROCESS` writes the binding, `Z`, `BUF`, `DRY` and `MIXCUR`, and nothing else but the model's own
counter. -/
theorem commandEffect_process_frame : commandEffect .reference (.process n) s =
    { s.withBinding (commandEffect .reference (.process n) s) with
      z := (commandEffect .reference (.process n) s).z
      buf := (commandEffect .reference (.process n) s).buf
      dry := (commandEffect .reference (.process n) s).dry
      mixcur := if n = 0 then s.mixcur else (commandEffect .reference (.process n) s).mixt
      freeIx := s.freeIx + 1 } := by
  have hbinding := processBinding_frame s
  have hblock : commandEffect .reference (.process n) s =
      { processBinding s with
        z := (commandEffect .reference (.process n) s).z
        buf := (commandEffect .reference (.process n) s).buf
        dry := (commandEffect .reference (.process n) s).dry
        mixcur := if n = 0 then (processBinding s).mixcur else (processBinding s).mixt } :=
    processBlock_frame .reference (1 :: s.site) n (processBinding s)
  generalize commandEffect .reference (.process n) s = t at hblock ⊢
  generalize processBinding s = u at hbinding hblock
  rw [hblock, hbinding]
  rfl

theorem commandEffect_process_sameBinding :
    (processBinding s).SameBinding (commandEffect .reference (.process n) s) := by
  rw [commandEffect_process]
  exact blockChannels_sameBinding .reference (1 :: s.site) s.mixcur (processBinding s) s.nch.toNat

/-- `PROCESS` binds as `UPDATE` does (R141). -/
theorem commandEffect_process_boundFrom :
    (commandEffect .reference (.process n) s).BoundFrom .reference s := by
  have hbound : (processBinding s).BoundFrom .reference s.draw := updateProc_boundFrom _ _
  exact hbound.congr (withBinding_of_sameBinding (commandEffect_process_sameBinding n s)).symm rfl

/-- Only the words of the block's samples are written. -/
theorem read_commandEffect_process {key : Nat} (hkey : ∀ c < s.nch.toNat, ∀ i < n, key ≠ sampleKey c i) :
    (commandEffect .reference (.process n) s).buf.read key = s.buf.read key ∧
      (commandEffect .reference (.process n) s).dry.read key = s.dry.read key := by
  have h := read_blockChannels .reference (1 :: s.site) s.mixcur (processBinding s) hkey
  rw [processBinding_buf, processBinding_dry] at h
  rwa [commandEffect_process]

/-- The stores and delay values that `PROCESS` leaves are those of its channels. -/
theorem processedChannels_sameChannel (c : Nat) :
    (processedChannels n s).SameChannel (commandEffect .reference (.process n) s) c := by
  obtain ⟨hbuf, hdry, hz⟩ : (commandEffect .reference (.process n) s).buf = (processedChannels n s).buf ∧
      (commandEffect .reference (.process n) s).dry = (processedChannels n s).dry ∧
      (commandEffect .reference (.process n) s).z = (processedChannels n s).z := by
    rw [commandEffect_process]
    exact ⟨rfl, rfl, rfl⟩
  exact .of_stores hbuf hdry hz c

/-- A channel that is not of the session is left alone. -/
theorem commandEffect_process_sameChannel {c : Nat} (hc : s.nch.toNat ≤ c) (hn : n ≤ 65536) :
    s.SameChannel (commandEffect .reference (.process n) s) c :=
  ((processBinding_sameChannel s c).trans (blockChannels_sameChannel _ _ _ _ hc hn)).trans
    (processedChannels_sameChannel n s c)

/-- A block of no samples changes no delay value (R141). -/
theorem commandEffect_process_empty_z : (commandEffect .reference (.process 0) s).z = s.z := by
  rw [commandEffect_process, processedChannels, blockChannels_empty]
  exact processBinding_z s

theorem delay_commandEffect_process_of_inactive {m : Nat}
    (hm : (commandEffect .reference (.process n) s).getAct m = false) (hpeak : m ≠ 4) (c : Nat) :
    ((commandEffect .reference (.process n) s).getZ c)[m]? = (s.getZ c)[m]? := by
  obtain ⟨-, hact, -⟩ := commandEffect_process_sameBinding n s
  rw [State.getAct, hact] at hm
  rw [(processedChannels_sameChannel n s c).z, ← (processBinding_sameChannel s c).z]
  exact delay_blockChannels_of_inactive _ _ _ _ _ hm hpeak c

end

/-- Settles O37: the frame of the updater, then that of the loop over the session's channels. -/
theorem processCompletes : Obligations.ProcessCompletes := by
  unfold Obligations.ProcessCompletes
  intro s n hs hn
  refine ⟨_, exec_process n s hs hn, ?_, (commandEffect_process_boundFrom n s).congr rfl rfl,
    fun key hkey => read_commandEffect_process n s hkey, ?_,
    fun c m hm hpeak => delay_commandEffect_process_of_inactive n s hm hpeak c⟩
  · have hframe := commandEffect_process_frame n s
    generalize commandEffect .reference (.process n) s = t at hframe ⊢
    rw [hframe]
    rfl
  · rintro c (hc | rfl)
    · exact (commandEffect_process_sameChannel n s hc (by have := s.maxblk.isLt; omega)).z
    · exact congrArg (fun z => z[c]?.getD (Vector.replicate 9 Delay.zero))
        (commandEffect_process_empty_z s)

end Sys2Proof.Machine
end

section
/-! PROOF. The block loop as a stream function of each channel (43_signal_chain.md R141, R148, R156): a sample
is read from the dry copy before its place is overwritten, and no other channel is read. -/

namespace Sys2Proof.Machine

/-! ## The chain depends on the binding alone -/

theorem chainSample_withBinding (P : Params) (k : Site) (u s : State) :
    chainSample P k (u.withBinding s) = chainSample P k s := rfl

theorem channelStream_withBinding (P : Params) (k : Site) (c n : Nat) (m0 : Word) (u s : State) (i : Nat)
    (zs : Vector Delay 9) (xs : List Word) :
    channelStream P k c n m0 (u.withBinding s) i zs xs = channelStream P k c n m0 s i zs xs := by
  induction xs generalizing i zs with
  | nil => rfl
  | cons x xs ih =>
    simp only [channelStream, chainSample_withBinding, ih]
    rfl

theorem channelStream_congr (P : Params) (k : Site) (c n : Nat) (m0 : Word) {s t : State}
    (h : s.SameBinding t) (i : Nat) (zs : Vector Delay 9) (xs : List Word) :
    channelStream P k c n m0 t i zs xs = channelStream P k c n m0 s i zs xs := by
  rw [← withBinding_of_sameBinding h, channelStream_withBinding]

/-! ## One channel -/

section
variable (P : Params) (k : Site) {c : Nat} (n : Nat) (m0 : Word)

theorem sampleStep_sameBinding (s : State) (i : Nat) : s.SameBinding (sampleStep P k c n m0 s i) :=
  ⟨rfl, rfl, rfl, rfl, rfl, rfl, rfl, rfl⟩

/-- The samples behind the loop are not written. -/
theorem getBuf_sampleLoop_of_lt (s : State) {i j len : Nat} (hj : j < i) (hlen : i + len ≤ 65536) :
    (sampleLoop P k c n m0 s i len).getBuf c j = s.getBuf c j := by
  refine foldl_keeps_mem (fun u : State => u.getBuf c j = s.getBuf c j) _ _ _ rfl ?_
  intro u i' hi' hu
  have hrange := List.mem_range'_1.1 hi'
  exact (read_sampleStep_of_ne P k n m0 u i'
    (sampleKey_ne _ _ _ _ (by omega) (by omega) (.inr (by omega)))).trans hu

theorem sampleLoop_dry (s : State) (i len : Nat) : (sampleLoop P k c n m0 s i len).dry = s.dry :=
  foldl_keeps (fun u : State => u.dry = s.dry) _ _ _ rfl fun _ _ hu => hu

/-- The loop over the samples from `i` on is the stream function on what `DRY` holds of them. -/
theorem channelStream_sampleLoop (hc : c < 2) (len : Nat) {s : State} {i : Nat} (hwf : s.buf.wf)
    (hlen : i + len ≤ 65536) :
    channelStream P k c n m0 s i (s.getZ c) ((List.range' i len).map (s.getDry c)) =
      ((List.range' i len).map ((sampleLoop P k c n m0 s i len).getBuf c),
        (sampleLoop P k c n m0 s i len).getZ c) := by
  induction len generalizing s i with
  | zero => rfl
  | succ len ih =>
    have hrest := ih (s := sampleStep P k c n m0 s i) (i := i + 1) (Mem.write_wf _ _ _ hwf) (by omega)
    have hhead := getBuf_sampleLoop_of_lt P k n m0 (c := c) (sampleStep P k c n m0 s i) (i := i + 1)
      (j := i) (len := len) (by omega) (by omega)
    rw [channelStream_congr P k c n m0 (sampleStep_sameBinding P k n m0 s i),
      getZ_sampleStep P k n m0 s i hc] at hrest
    rw [getBuf_sampleStep P k n m0 s i hwf] at hhead
    rw [sampleLoop_succ, List.range'_succ, List.map_cons, List.map_cons, hhead, channelStream]
    exact congrArg (Prod.map (List.cons _) id) hrest

end

/-! ## The dry copy (20_memory.md R64) -/

@[simp] theorem copyDry_buf (c n : Nat) (s : State) : (copyDry c n s).buf = s.buf := by rw [copyDry_frame]
@[simp] theorem copyDry_z (c n : Nat) (s : State) : (copyDry c n s).z = s.z := by rw [copyDry_frame]

theorem copyDry_sameBinding (c n : Nat) (s : State) : s.SameBinding (copyDry c n s) := by
  rw [copyDry_frame]
  exact ⟨rfl, rfl, rfl, rfl, rfl, rfl, rfl, rfl⟩

theorem copyDry_dry_wf (c n : Nat) {s : State} (hwf : s.dry.wf) : (copyDry c n s).dry.wf :=
  foldl_keeps (fun u : State => u.dry.wf) _ _ _ hwf fun _ _ hu => Mem.write_wf _ _ _ hu

/-- The copy writes `DRY` alone, so each of its words is the sample it was copied from. -/
theorem getDry_copyDry {c n : Nat} {s : State} (hwf : s.dry.wf) (hn : n ≤ 65536) {i : Nat} (hi : i < n) :
    (copyDry c n s).getDry c i = s.getBuf c i := by
  induction n with
  | zero => exact absurd hi (Nat.not_lt_zero i)
  | succ n ih =>
    rw [copyDry_succ]
    rcases Nat.lt_succ_iff_lt_or_eq.1 hi with hlt | rfl
    · have hne : sampleKey c i ≠ sampleKey c n := sampleKey_ne _ _ _ _ (by omega) (by omega) (.inr hlt.ne)
      exact (Mem.read_write_other _ _ _ _ hne).trans (ih (by omega) hlt)
    · refine (Mem.read_write_same _ _ _ (copyDry_dry_wf c i hwf)).trans ?_
      rw [State.getBuf, copyDry_buf, State.getBuf]

/-! ## A computed channel (R141) -/

/-- From `s` to `t` channel `c` becomes what the stream function of the chain, with the binding of `b`,
makes of it, and its samples are kept in `DRY`. -/
structure ChannelComputed (P : Params) (k : Site) (n : Nat) (m0 : Word) (c : Nat) (b s t : State) : Prop where
  stream : channelStream P k c n m0 b 0 (s.getZ c) (s.block c n) = (t.block c n, t.getZ c)
  dry : ∀ i < n, t.getDry c i = s.getBuf c i

theorem block_eq_iff {s t : State} {c n : Nat} :
    t.block c n = s.block c n ↔ ∀ i < n, t.getBuf c i = s.getBuf c i := by
  simp only [State.block, List.map_inj_left, List.mem_range]

theorem State.SameChannel.block_eq {s t : State} {c n : Nat} (h : s.SameChannel t c) (hn : n ≤ 65536) :
    t.block c n = s.block c n :=
  block_eq_iff.2 fun i hi => h.buf i (by omega)

section
variable {P : Params} {k : Site} {n : Nat} {m0 : Word} {c : Nat} {b s t u : State}

theorem ChannelComputed.of_sameBinding {b' : State} (h : ChannelComputed P k n m0 c b s t)
    (hbinding : b'.SameBinding b) : ChannelComputed P k n m0 c b' s t where
  stream := by rw [← h.stream, channelStream_congr _ _ _ _ _ hbinding]
  dry := h.dry

/-- Steps before that leave the channel alone do not count. -/
theorem ChannelComputed.of_sameChannel (h : ChannelComputed P k n m0 c b t u) (hst : s.SameChannel t c)
    (hn : n ≤ 65536) : ChannelComputed P k n m0 c b s u where
  stream := by rw [← h.stream, hst.block_eq hn, hst.z]
  dry i hi := (h.dry i hi).trans (hst.buf i (by omega))

/-- Steps after that leave the channel alone do not count. -/
theorem ChannelComputed.trans_sameChannel (h : ChannelComputed P k n m0 c b s t)
    (htu : t.SameChannel u c) (hn : n ≤ 65536) : ChannelComputed P k n m0 c b s u where
  stream := by rw [h.stream, htu.block_eq hn, htu.z]
  dry i hi := (htu.dry i (by omega)).trans (h.dry i hi)

end

section
variable (P : Params) (k : Site) {n : Nat} (m0 : Word) {s : State}

theorem processChannel_computed (h : s.Inv) {c : Nat} (hc : c < 2) (hn : n ≤ 65536) :
    ChannelComputed P k n m0 c s s (processChannel P k n m0 s c) := by
  obtain ⟨hbuf, hdry, -, -⟩ := h.stores
  have hz : (copyDry c n s).getZ c = s.getZ c := by rw [State.getZ, copyDry_z, State.getZ]
  have hcopy : (List.range n).map ((copyDry c n s).getDry c) = s.block c n :=
    List.map_congr_left fun i hi => getDry_copyDry hdry hn (List.mem_range.1 hi)
  have hstream := channelStream_sampleLoop P k n m0 hc n (s := copyDry c n s) (i := 0)
    (by rwa [copyDry_buf]) (by omega)
  rw [← List.range_eq_range', hcopy, hz, channelStream_congr _ _ _ _ _ (copyDry_sameBinding c n s),
    ← processChannel_eq_sampleLoop] at hstream
  refine ⟨hstream, fun i hi => ?_⟩
  rw [processChannel_eq_sampleLoop, State.getDry, sampleLoop_dry]
  exact getDry_copyDry hdry hn hi

/-- Each channel is computed when its turn comes, and left alone before and after it. -/
theorem blockChannels_computed (h : s.Inv) {m : Nat} (hm : m ≤ 2) (hn : n ≤ 4096) {c : Nat} (hc : c < m) :
    ChannelComputed P k n m0 c s s (blockChannels P k n m0 s m) := by
  induction m with
  | zero => exact absurd hc (Nat.not_lt_zero c)
  | succ m ih =>
    rw [blockChannels_succ]
    rcases Nat.lt_succ_iff_lt_or_eq.1 hc with hlt | rfl
    · exact (ih (by omega) hlt).trans_sameChannel
        (processChannel_sameChannel P k m0 _ hlt.ne (by omega)) (by omega)
    · have hown := processChannel_computed P k (n := n) m0 (c := c)
        (inv_blockChannels h P k m0 (m := c) (by omega) hn) (by omega) (by omega)
      exact (hown.of_sameBinding (blockChannels_sameBinding P k m0 s c)).of_sameChannel
        (blockChannels_sameChannel P k m0 s le_rfl (by omega)) (by omega)

end

/-! ## The channels of a session (R141) -/

section
variable {s t : State} {n : Nat}

/-- An executed `PROCESS` leaves the processed channels, whatever the answer adds. -/
theorem eq_of_exec_process (hs : s.ReadyInSession) (hn : n ≤ s.maxblk.toNat)
    (ht : exec (.process n) s = .next t) :
    t = (commandEffect .reference (.process n) s).respond (.ok 0) := by
  rw [exec_process n s hs hn] at ht
  cases ht
  rfl

/-- `PROCESS` computes each channel of the session on what it held, with the binding of the updater. -/
theorem process_computed (h : s.Inv) (hs : s.ReadyInSession) (hn : n ≤ s.maxblk.toNat)
    (ht : exec (.process n) s = .next t) {c : Nat} (hc : c < s.nch.toNat) :
    ChannelComputed .reference (1 :: s.site) n s.mixcur c (processBinding s) s t := by
  obtain rfl := eq_of_exec_process hs hn ht
  obtain ⟨hnch, hblk⟩ := session_bounds h hs.2
  have hinv : (processBinding s).Inv := inv_updateProc (inv_draw h) _
  have hblock : ChannelComputed .reference (1 :: s.site) n s.mixcur c (processBinding s)
      (processBinding s) (processedChannels n s) := blockChannels_computed _ _ _ hinv hnch (by omega) hc
  exact (hblock.of_sameChannel (processBinding_sameChannel s c) (by omega)).trans_sameChannel
    ((processedChannels_sameChannel n s c).trans (respond_sameChannel _ _ c)) (by omega)

theorem process_sameChannel (hs : s.ReadyInSession) (hn : n ≤ s.maxblk.toNat)
    (ht : exec (.process n) s = .next t) {c : Nat} (hc : s.nch.toNat ≤ c) : s.SameChannel t c := by
  obtain rfl := eq_of_exec_process hs hn ht
  have hlt := s.maxblk.isLt
  exact (commandEffect_process_sameChannel n s hc (by omega)).trans (respond_sameChannel _ _ c)

/-- The words behind the block keep what they hold. -/
theorem process_getBuf_of_ge (hs : s.ReadyInSession) (hn : n ≤ s.maxblk.toNat)
    (ht : exec (.process n) s = .next t) (c : Nat) {i : Nat} (hi : n ≤ i) (hlt : i < 65536) :
    t.getBuf c i = s.getBuf c i := by
  obtain rfl := eq_of_exec_process hs hn ht
  exact (read_commandEffect_process n s fun c' _ i' hi' =>
    sampleKey_ne _ _ _ _ (by omega) hlt (.inr (by omega))).1

theorem process_sameBinding (hs : s.ReadyInSession) (hn : n ≤ s.maxblk.toNat)
    (ht : exec (.process n) s = .next t) : (processBinding s).SameBinding t := by
  obtain rfl := eq_of_exec_process hs hn ht
  exact commandEffect_process_sameBinding n s

end

/-- Settles O38: the channel is that of the state before the command, the binding that of the state after. -/
theorem processComputesChannelStreams : Obligations.ProcessComputesChannelStreams := by
  unfold Obligations.ProcessComputesChannelStreams
  intro s t n h hs hn ht c hc
  obtain ⟨hstream, hdry⟩ := process_computed h hs hn ht hc
  rw [← channelStream_congr _ _ _ _ _ (process_sameBinding hs hn ht)] at hstream
  exact ⟨1 :: s.site, hstream, hdry⟩

/-! ## Independent channels (R156) -/

/-- The updater reads no sample and no delay value. -/
theorem bindCut_withPath (P : Params) (k : Site) (base : Nat) (fc : Word) (q : Nat) (t : CutType)
    (s u : State) : bindCut P k base fc q t (s.withPath u) = (bindCut P k base fc q t s).withPath u := by
  have hactive : bindActive base (q + 1) (s.withPath u) = (bindActive base (q + 1) s).withPath u :=
    List.foldl_hom (State.withPath · u) fun _ _ => rfl
  unfold bindCut
  rw [hactive]
  exact List.foldl_hom (State.withPath · u) fun _ _ => rfl

theorem updateProc_withPath (P : Params) (k : Site) (s u : State) :
    updateProc P k (s.withPath u) = (updateProc P k s).withPath u := by
  have hsnapshot : snapshot P (s.withPath u) = snapshot P s := rfl
  simp only [updateProc, hsnapshot, bindCut_withPath]
  rfl

theorem processBinding_withPath (s u : State) :
    processBinding (s.withPath u) = (processBinding s).withPath u := by
  have hdraw : (s.withPath u).draw = s.draw.withPath u := rfl
  rw [processBinding, hdraw, updateProc_withPath]
  rfl

theorem withPath_sameBinding (s u : State) : s.SameBinding (s.withPath u) :=
  ⟨rfl, rfl, rfl, rfl, rfl, rfl, rfl, rfl⟩

theorem exists_withPath {s s' : State} (h : s' = { s with buf := s'.buf, z := s'.z }) :
    ∃ u, s' = s.withPath u :=
  ⟨{ s' with dry := s.dry }, h⟩

/-- Settles O39: a session channel is the stream function of its own samples and delay values, and any other
channel, and the words behind the block, keep theirs. -/
theorem channelsAreIndependent : Obligations.ChannelsAreIndependent := by
  unfold Obligations.ChannelsAreIndependent
  intro s s' t t' n c h h' hs hn hs' hbuf hz ht ht'
  obtain ⟨u, rfl⟩ := exists_withPath hs'
  have hready' : (s.withPath u).ReadyInSession := hs
  have hn' : n ≤ (s.withPath u).maxblk.toNat := hn
  have hlen := s.maxblk.isLt
  rcases Nat.lt_or_ge c s.nch.toNat with hc | hc
  · have hblock : (s.withPath u).block c n = s.block c n := block_eq_iff.2 fun i hi => hbuf i (by omega)
    have hstream := (process_computed h hs hn ht hc).stream
    have hstream' := (process_computed h' hready' hn' ht' hc).stream
    rw [processBinding_withPath, hz, hblock, channelStream_congr _ _ _ _ _ (withPath_sameBinding _ u)]
      at hstream'
    obtain ⟨hout, hzout⟩ := Prod.mk.inj (hstream'.symm.trans hstream)
    refine ⟨fun i hi => ?_, hzout⟩
    rcases Nat.lt_or_ge i n with hin | hin
    · exact block_eq_iff.1 hout i hin
    · rw [process_getBuf_of_ge hs hn ht c hin hi, process_getBuf_of_ge hready' hn' ht' c hin hi,
        hbuf i hi]
  · have hkept := process_sameChannel hs hn ht hc
    have hkept' := process_sameChannel hready' hn' ht' hc
    exact ⟨fun i hi => by rw [hkept.buf i hi, hkept'.buf i hi, hbuf i hi], by rw [hkept.z, hkept'.z, hz]⟩

/-! ## The settled dry mix (R154) -/

/-- Each output sample is a mix of its input with a wet sample, of some delay values. -/
theorem exists_getElem?_channelStream (P : Params) (k : Site) (c n : Nat) (m0 : Word) (s : State)
    (xs : List Word) (i : Nat) (zs : Vector Delay 9) {j : Nat} {x : Word} (hx : xs[j]? = some x) :
    ∃ k₁ k₂ k₃ zs', (channelStream P k c n m0 s i zs xs).1[j]? =
      some (mix k₁ x (chainSample P k₂ s zs' x).1 (rampValue k₃ m0 s.mixt n (i + j))) := by
  induction xs generalizing i zs j with
  | nil => exact absurd hx (by simp)
  | cons y ys ih =>
    cases j with
    | zero =>
      obtain rfl : y = x := Option.some.inj hx
      exact ⟨_, _, _, zs, rfl⟩
    | succ j =>
      obtain ⟨k₁, k₂, k₃, zs', hj⟩ := ih (i + 1) _ hx
      refine ⟨k₁, k₂, k₃, zs', ?_⟩
      rw [← Nat.add_assoc, Nat.add_right_comm, ← hj]
      rfl

theorem getElem?_block (s : State) (c : Nat) {n i : Nat} (hi : i < n) :
    (s.block c n)[i]? = some (s.getBuf c i) := by
  rw [State.block, List.getElem?_map, List.getElem?_range hi, Option.map_some]

/-- A zero of either sign is in the range of the mix, so the updater binds it as it is. -/
theorem isZero_processBinding_mixt {s : State} (h : isZero (s.getPar 12) = true) :
    isZero (processBinding s).mixt = true := by
  have hin : within Config.mixMin Config.mixMax (s.getPar 12) = true := by
    rw [within_iff_value, (value_eq_zero_iff _).2 h]
    exact ⟨rfl, rfl, isNaN_of_isFinite (isFinite_of_isZero h), by decide, by decide⟩
  have hmixt : (processBinding s).mixt = clampF (s.getPar 12) Config.mixMin Config.mixMax _ :=
    (updateProc_boundFrom _ s.draw).mixt
  rwa [hmixt, clampF_of_within _ hin]

/-- Settles O40: the ramp from zero to zero stays at zero, where the wet sample, being finite, does not
count. -/
theorem settledDryMixPassesInput : Obligations.SettledDryMixPassesInput := by
  unfold Obligations.SettledDryMixPassesInput
  intro s t n c i h hs hn hmixcur hpar ht hc hi hx
  obtain ⟨-, hblk⟩ := session_bounds h hs.2
  have hinv : (processBinding s).Inv := inv_updateProc (inv_draw h) _
  obtain ⟨k₁, k₂, k₃, zs, hsample⟩ := exists_getElem?_channelStream .reference (1 :: s.site) c n s.mixcur
    (processBinding s) (s.block c n) 0 (s.getZ c) (getElem?_block s c hi)
  rw [(process_computed h hs hn ht hc).stream, getElem?_block t c hi, Nat.zero_add] at hsample
  have hramp : feq (rampValue k₃ s.mixcur (processBinding s).mixt n i) s.mixcur = true :=
    feq_rampValue k₃ (isFinite_of_isZero hmixcur)
      (feq_of_isZero (isZero_processBinding_mixt hpar) hmixcur) (by omega) hi
  rw [Option.some.inj hsample]
  exact feq_mix_of_isZero k₁ hx (wetSampleIsFinite k₂ _ zs _ hinv) (isZero_of_feq hramp hmixcur)

end Sys2Proof.Machine
end

section
/-! PROOF. The contract of the waveshaper (44_waveshaper.md R171, R172): two numbers that differ at most in
the bits of a NaN give the same output, and the place of a primitive chooses nothing else (40_numerics.md
R98). -/

namespace Sys2Proof.Machine

/-! ## Numbers up to the bits of a NaN (R98) -/

/-- The same word, or two NaNs. -/
def SameNumber (a b : Word) : Prop := a = b ∨ (isNaN a = true ∧ isNaN b = true)

theorem SameNumber.refl (a : Word) : SameNumber a a := .inl rfl

theorem SameNumber.eq_of_isFinite {a b : Word} (h : SameNumber a b) (ha : isFinite a = true) : a = b :=
  h.resolve_right fun hnan => by simp [isNaN_of_isFinite ha] at hnan

theorem SameNumber.map {f : Word → Word} (hf : ∀ x, isNaN x = true → isNaN (f x) = true) {a b : Word}
    (h : SameNumber a b) : SameNumber (f a) (f b) := by
  obtain rfl | ⟨ha, hb⟩ := h
  · exact .refl _
  · exact .inr ⟨hf _ ha, hf _ hb⟩

/-- A primitive whose place chooses no more than a NaN, and that gives one at a NaN, tells no NaNs apart. -/
theorem SameNumber.map₂ {op : Site → Word → Word → Word}
    (hplace : ∀ k k' a b, SameNumber (op k a b) (op k' a b))
    (hnan : ∀ k {a b}, isNaN a = true ∨ isNaN b = true → isNaN (op k a b) = true)
    (k k' : Site) {a a' b b' : Word} (ha : SameNumber a a') (hb : SameNumber b b') :
    SameNumber (op k a b) (op k' a' b') := by
  obtain rfl | ⟨ha, ha'⟩ := ha
  · obtain rfl | ⟨hb, hb'⟩ := hb
    · exact hplace k k' a b
    · exact .inr ⟨hnan k (.inr hb), hnan k' (.inr hb')⟩
  · exact .inr ⟨hnan k (.inl ha), hnan k' (.inl ha')⟩

/-! ## The primitives (R92) -/

theorem sameNumber_fadd_place (k k' : Site) (a b : Word) : SameNumber (fadd k a b) (fadd k' a b) := by
  unfold fadd
  split_ifs <;> simp [SameNumber, isNaN_freeNaN]

theorem sameNumber_fmul_place (k k' : Site) (a b : Word) : SameNumber (fmul k a b) (fmul k' a b) := by
  simp only [fmul]
  split_ifs <;> simp [SameNumber, isNaN_freeNaN]

theorem sameNumber_fdiv_place (k k' : Site) (a b : Word) : SameNumber (fdiv k a b) (fdiv k' a b) := by
  simp only [fdiv]
  split_ifs <;> simp [SameNumber, isNaN_freeNaN]

section
variable (k k' : Site) {a a' b b' : Word} (ha : SameNumber a a') (hb : SameNumber b b')
include ha hb

theorem sameNumber_fadd : SameNumber (fadd k a b) (fadd k' a' b') :=
  .map₂ sameNumber_fadd_place isNaN_fadd_of_isNaN k k' ha hb

theorem sameNumber_fmul : SameNumber (fmul k a b) (fmul k' a' b') :=
  .map₂ sameNumber_fmul_place isNaN_fmul_of_isNaN k k' ha hb

theorem sameNumber_fdiv : SameNumber (fdiv k a b) (fdiv k' a' b') :=
  .map₂ sameNumber_fdiv_place isNaN_fdiv_of_isNaN k k' ha hb

theorem sameNumber_fsub : SameNumber (fsub k a b) (fsub k' a' b') :=
  sameNumber_fadd k k' ha (hb.map fun _ h => by rwa [isNaN_fneg])

end

theorem isFinite_of_isNaN {a : Word} (ha : isNaN a = true) : isFinite a = false := by
  rw [← Bool.not_eq_true]
  intro hfin
  simp [isNaN_of_isFinite hfin] at ha

theorem isNaN_frint_of_isNaN {a : Word} (ha : isNaN a = true) : isNaN (frint a) = true := by
  rwa [frint, if_neg (by simp [isFinite_of_isNaN ha])]

theorem flt_eq_false_of_isNaN {a b : Word} (h : isNaN a = true ∨ isNaN b = true) : flt a b = false := by
  obtain h | h := h <;> simp [flt, h]

theorem SameNumber.flt_right {u u' : Word} (h : SameNumber u u') (x : Word) : flt x u = flt x u' := by
  obtain rfl | ⟨hu, hu'⟩ := h
  · rfl
  · rw [flt_eq_false_of_isNaN (.inr hu), flt_eq_false_of_isNaN (.inr hu')]

/-- The output clamp makes +0.0 of every NaN (R108). -/
theorem SameNumber.sat1_eq {v v' : Word} (h : SameNumber v v') : sat1 v = sat1 v' := by
  obtain rfl | ⟨hv, hv'⟩ := h
  · rfl
  · rw [sat1_eq_clampF, sat1_eq_clampF, clampF_of_isNaN _ hv, clampF_of_isNaN _ hv']

/-! ## The kinds (R173 to R181) -/

section
variable (k k' : Site) (x a : Word)

theorem sameNumber_threshold : SameNumber (fsub k Config.one a) (fsub k' Config.one a) :=
  sameNumber_fsub k k' (.refl _) (.refl _)

theorem shapeHardclip_place : shapeHardclip k x a = shapeHardclip k' x a := by
  unfold shapeHardclip
  obtain hu | ⟨hu, hu'⟩ := sameNumber_threshold (0 :: k) (0 :: k') a
  · rw [hu]
  · simp [fgt, flt_eq_false_of_isNaN, hu, hu']

theorem shapeSoftclip_place : shapeSoftclip k x a = shapeSoftclip k' x a := by
  have hd : SameNumber
      (fdiv (0 :: k) (fmul (1 :: k) Config.two a) (fsub (2 :: k) Config.one a))
      (fdiv (0 :: k') (fmul (1 :: k') Config.two a) (fsub (2 :: k') Config.one a)) :=
    sameNumber_fdiv _ _ (sameNumber_fmul_place _ _ _ _) (sameNumber_threshold _ _ a)
  exact (sameNumber_fdiv _ _
    (sameNumber_fmul _ _ (sameNumber_fadd _ _ (.refl _) hd) (.refl x))
    (sameNumber_fadd _ _ (.refl _) (sameNumber_fmul _ _ hd (.refl _)))).sat1_eq

theorem shapeCracked_place {cos : Word → Word} (hcos : ∀ y, isNaN y = true → isNaN (cos y) = true) :
    shapeCracked cos k x a = shapeCracked cos k' x a :=
  (sameNumber_fmul _ _
    (sameNumber_fmul _ _ (sameNumber_fmul_place _ _ x x) (.refl x))
    ((sameNumber_fmul _ _ (sameNumber_fmul_place _ _ Config.pi32 a) (.refl x)).map hcos)).sat1_eq

theorem shapeGnome_place : shapeGnome k x a = shapeGnome k' x a :=
  (sameNumber_fdiv _ _ (.refl x)
    (sameNumber_fadd _ _ (.refl (fabs x)) (sameNumber_threshold _ _ a))).sat1_eq

theorem shapeWarm_place : shapeWarm k x a = shapeWarm k' x a := by
  unfold shapeWarm
  split
  · exact (sameNumber_fdiv _ _ (sameNumber_fmul _ _ (sameNumber_fadd_place _ _ _ a) (.refl x))
      (sameNumber_fadd _ _ (.refl _) (sameNumber_fmul_place _ _ a x))).sat1_eq
  · exact (sameNumber_fdiv _ _ (.refl x)
      (sameNumber_fsub _ _ (.refl _) (sameNumber_fmul_place _ _ a x))).sat1_eq

theorem shapeQuantize_place : shapeQuantize k x a = shapeQuantize k' x a := by
  have hl : SameNumber (fmul (0 :: k) (fsub (1 :: k) Config.one a) Config.sixtyFour)
      (fmul (0 :: k') (fsub (1 :: k') Config.one a) Config.sixtyFour) :=
    sameNumber_fmul _ _ (sameNumber_threshold _ _ a) (.refl _)
  exact (sameNumber_fdiv _ _
    ((sameNumber_fmul _ _ (.refl x) hl).map fun _ => isNaN_frint_of_isNaN) hl).sat1_eq

section
variable {sin : Word → Word} (hsin : ∀ y, isNaN y = true → isNaN (sin y) = true)
include hsin

theorem shapeFuzz_place : shapeFuzz sin k x a = shapeFuzz sin k' x a :=
  ((sameNumber_fmul _ _ (sameNumber_fmul_place _ _ Config.halfPi32 x)
    (sameNumber_fadd _ _ (.refl _) (sameNumber_fmul_place _ _ Config.eight a))).map hsin).sat1_eq

theorem shapeHollowing_place : shapeHollowing sin k x a = shapeHollowing sin k' x a :=
  (sameNumber_fsub _ _ (.refl x)
    (sameNumber_fmul _ _ (.refl a) ((sameNumber_fmul_place _ _ Config.pi32 x).map hsin))).sat1_eq

theorem shapeRash_place : shapeRash sin k x a = shapeRash sin k' x a := by
  simp only [shapeRash, (sameNumber_threshold (0 :: k) (0 :: k') a).flt_right]
  split
  · rfl
  · exact (sameNumber_fadd _ _ (.refl x)
      (sameNumber_fmul _ _ (sameNumber_fmul_place _ _ a _)
        ((sameNumber_fmul_place _ _ x _).map hsin))).sat1_eq

end

end

/-- No free value reaches the output of a kind (R171). -/
theorem shape_place {sin cos : Word → Word}
    (hnan : ∀ y, isNaN y = true → isNaN (sin y) = true ∧ isNaN (cos y) = true)
    (k k' : Site) (kind : Kind) (x a : Word) :
    shape sin cos k kind x a = shape sin cos k' kind x a := by
  have hsin (y : Word) (hy : isNaN y = true) : isNaN (sin y) = true := (hnan y hy).1
  have hcos (y : Word) (hy : isNaN y = true) : isNaN (cos y) = true := (hnan y hy).2
  cases kind with
  | hardclip => exact shapeHardclip_place k k' x a
  | softclip => exact shapeSoftclip_place k k' x a
  | cracked => exact shapeCracked_place k k' x a hcos
  | gnome => exact shapeGnome_place k k' x a
  | warm => exact shapeWarm_place k k' x a
  | quantize => exact shapeQuantize_place k k' x a
  | fuzz => exact shapeFuzz_place k k' x a hsin
  | hollowing => exact shapeHollowing_place k k' x a hsin
  | rash => exact shapeRash_place k k' x a hsin

/-- Settles O44: every kind ends in the clamp, which gives one word for all NaNs. -/
theorem waveshaperContract : Obligations.WaveshaperContract := by
  unfold Obligations.WaveshaperContract
  refine ⟨fun sin cos k kind x a => ?_, shape_place fun y hy => ?_, fun sin cos => shape_place⟩
  · have hin := within_shape sin cos k kind x a
    exact ⟨hin, isNaN_of_within _ _ _ hin⟩
  · exact isNaN_trig_of_not_isFinite (isFinite_of_isNaN hy)

end Sys2Proof.Machine
end

section
/-! PROOF. The bounds that rounding keeps (40_numerics.md R91): a result whose exact value lies between two
finite values lies between them too. With this the terms of the waveshaper that depend on the amount alone
have ranges (44_waveshaper.md R173 to R181). -/

namespace Sys2Proof.Machine

/-! ## Rounding keeps a range with finite ends -/

theorem RangeHolds.isFinite {g : Range} {a : Word} (h : RangeHolds g a) : Machine.isFinite a = true := by
  obtain ⟨hlo, hhi, hin⟩ := h
  exact isFinite_of_within hlo hhi hin

theorem RangeHolds.value_bounds {g : Range} {a : Word} (h : RangeHolds g a) :
    value g.lo ≤ value a ∧ value a ≤ value g.hi := by
  obtain ⟨-, -, hin⟩ := h
  obtain ⟨-, -, -, hbounds⟩ := within_iff_value.1 hin
  exact hbounds

/-- A value in a range that begins above zero is positive. -/
theorem RangeHolds.pos {g : Range} {a : Word} (h : RangeHolds g a) (hpos : flt 0 g.lo = true) :
    flt 0 a = true := by
  obtain ⟨hlo, hhi, hin⟩ := h
  exact (finite_pos_of_within hlo hhi hpos hin).2

theorem rangeHolds_fneg {g : Range} {a : Word} (h : RangeHolds g a) :
    RangeHolds ⟨fneg g.hi, fneg g.lo⟩ (fneg a) := by
  obtain ⟨hlo, hhi, hin⟩ := h
  exact ⟨by rwa [isFinite_fneg], by rwa [isFinite_fneg], within_fneg hin⟩

theorem CorrectlyRounded.isFinite_of_bounds {r : Word} {x : ℝ} {g : Range} (h : CorrectlyRounded r x)
    (hlo : isFinite g.lo = true) (hhi : isFinite g.hi = true) (hlow : value g.lo ≤ x)
    (hhigh : x ≤ value g.hi) : isFinite r = true := by
  have hsmall {c : Word} (hc : isFinite c = true) : |(value c : ℝ)| < (2 ^ 25 - 1) * 2 ^ 252 := by
    have hle : (mag c : ℝ) ≤ ((2 ^ 24 - 1) * 2 ^ 253 : Nat) := by exact_mod_cast mag_le_of_isFinite hc
    rw [abs_value]
    exact hle.trans_lt (by norm_num)
  obtain ⟨-, hfin, -⟩ := h
  rw [hfin]
  exact (abs_le_max_abs_abs hlow hhigh).trans_lt (max_lt (hsmall hlo) (hsmall hhi))

/-- The rounding is as near as each end of the range, so it lies beyond neither. -/
theorem CorrectlyRounded.rangeHolds {r : Word} {x : ℝ} {g : Range} (h : CorrectlyRounded r x)
    (hlo : isFinite g.lo = true) (hhi : isFinite g.hi = true) (hlow : value g.lo ≤ x)
    (hhigh : x ≤ value g.hi) : RangeHolds g r := by
  have hr := h.isFinite_of_bounds hlo hhi hlow hhigh
  obtain ⟨hnan, -, -, hnear⟩ := h
  obtain ⟨hnearLo, -⟩ := hnear hr g.lo hlo
  obtain ⟨hnearHi, -⟩ := hnear hr g.hi hhi
  rw [abs_of_nonpos (a := (value g.lo : ℝ) - x) (by linarith)] at hnearLo
  rw [abs_of_nonneg (a := (value g.hi : ℝ) - x) (by linarith)] at hnearHi
  have hge : (value g.lo : ℝ) ≤ value r := by linarith [neg_le_abs ((value r : ℝ) - x)]
  have hle : (value r : ℝ) ≤ value g.hi := by linarith [le_abs_self ((value r : ℝ) - x)]
  exact ⟨hlo, hhi, within_iff_value.2 ⟨isNaN_of_isFinite hlo, isNaN_of_isFinite hhi, hnan,
    by exact_mod_cast hge, by exact_mod_cast hle⟩⟩

section
variable {g₁ g₂ : Range} {a b : Word} (k : Site) (g : Range) (ha : RangeHolds g₁ a)
  (hb : RangeHolds g₂ b) (hg : isFinite g.lo = true ∧ isFinite g.hi = true)
include ha hb hg

theorem rangeHolds_fadd
    (h : value g.lo ≤ value g₁.lo + value g₂.lo ∧ value g₁.hi + value g₂.hi ≤ value g.hi) :
    RangeHolds g (fadd k a b) := by
  obtain ⟨hage, hale⟩ := ha.value_bounds
  obtain ⟨hbge, hble⟩ := hb.value_bounds
  obtain ⟨hlo, hhi⟩ := hg
  refine (correctlyRounded_fadd k ha.isFinite hb.isFinite).rangeHolds hlo hhi ?_ ?_ <;>
    norm_cast <;> omega

theorem rangeHolds_fmul (hnonneg : 0 ≤ value g₁.lo ∧ 0 ≤ value g₂.lo)
    (h : value g.lo * 2 ^ 149 ≤ value g₁.lo * value g₂.lo ∧
      value g₁.hi * value g₂.hi ≤ value g.hi * 2 ^ 149) :
    RangeHolds g (fmul k a b) := by
  obtain ⟨hage, hale⟩ := ha.value_bounds
  obtain ⟨hbge, hble⟩ := hb.value_bounds
  obtain ⟨hlo, hhi⟩ := hg
  obtain ⟨hnonneg₁, hnonneg₂⟩ := hnonneg
  obtain ⟨hlow', hhigh'⟩ := h
  have ha0 : 0 ≤ value a := hnonneg₁.trans hage
  have hlow : value g.lo * 2 ^ 149 ≤ value a * value b := hlow'.trans (by gcongr)
  have hhigh : value a * value b ≤ value g.hi * 2 ^ 149 := by
    refine le_trans ?_ hhigh'
    gcongr <;> omega
  refine (correctlyRounded_fmul k ha.isFinite hb.isFinite).rangeHolds hlo hhi ?_ ?_
  · rw [le_div_iff₀ (by positivity)]
    exact_mod_cast hlow
  · rw [div_le_iff₀ (by positivity)]
    exact_mod_cast hhigh

theorem rangeHolds_fdiv (hnonneg : 0 ≤ value g.lo ∧ 0 ≤ value g.hi ∧ 0 < value g₂.lo)
    (h : value g.lo * value g₂.hi ≤ value g₁.lo * 2 ^ 149 ∧
      value g₁.hi * 2 ^ 149 ≤ value g.hi * value g₂.lo) :
    RangeHolds g (fdiv k a b) := by
  obtain ⟨hage, hale⟩ := ha.value_bounds
  obtain ⟨hbge, hble⟩ := hb.value_bounds
  obtain ⟨hlo, hhi⟩ := hg
  obtain ⟨hnonnegLo, hnonnegHi, hpos⟩ := hnonneg
  obtain ⟨hlow', hhigh'⟩ := h
  have hb0 : 0 < value b := hpos.trans_le hbge
  have hzero : isZero b = false := by
    rw [← Bool.not_eq_true, ← value_eq_zero_iff]
    omega
  have hlow : value g.lo * value b ≤ value a * 2 ^ 149 :=
    calc value g.lo * value b ≤ value g.lo * value g₂.hi := by gcongr
      _ ≤ value g₁.lo * 2 ^ 149 := hlow'
      _ ≤ value a * 2 ^ 149 := by gcongr
  have hhigh : value a * 2 ^ 149 ≤ value g.hi * value b :=
    calc value a * 2 ^ 149 ≤ value g₁.hi * 2 ^ 149 := by gcongr
      _ ≤ value g.hi * value g₂.lo := hhigh'
      _ ≤ value g.hi * value b := by gcongr
  have hb0' : (0 : ℝ) < value b := by exact_mod_cast hb0
  refine (correctlyRounded_fdiv k ha.isFinite hb.isFinite hzero).rangeHolds hlo hhi ?_ ?_
  · rw [le_div_iff₀ hb0']
    exact_mod_cast hlow
  · rw [div_le_iff₀ hb0']
    exact_mod_cast hhigh

end

/-! ## The terms of the amount -/

theorem rangeHolds_self {c : Word} (hc : isFinite c = true) : RangeHolds ⟨c, c⟩ c := by
  have hle := fle_refl (isNaN_of_isFinite hc)
  exact ⟨hc, hc, by rw [within, hle]; rfl⟩

section
variable {a : Word} (ha : within 0 0x3F7D70A4#32 a = true)
include ha

theorem rangeHolds_amount : RangeHolds ⟨0, 0x3F7D70A4#32⟩ a := ⟨rfl, rfl, ha⟩

/-- The threshold 1 - a is in [2^-7, 1]. -/
theorem rangeHolds_threshold (k : Site) :
    RangeHolds ⟨0x3C000000#32, Config.one⟩ (fsub k Config.one a) :=
  rangeHolds_fadd k _ (rangeHolds_self (c := Config.one) rfl) (rangeHolds_fneg (rangeHolds_amount ha))
    (by decide) (by decide)

/-- The drive 2a / (1 - a) of `SOFTCLIP` is in [0, 256]. -/
theorem rangeHolds_drive (k k' k'' : Site) : RangeHolds ⟨0, 0x43800000#32⟩
    (fdiv k (fmul k' Config.two a) (fsub k'' Config.one a)) := by
  have hnum : RangeHolds ⟨0, Config.two⟩ (fmul k' Config.two a) :=
    rangeHolds_fmul k' _ (rangeHolds_self (c := Config.two) rfl) (rangeHolds_amount ha)
      (by decide) (by decide) (by decide)
  exact rangeHolds_fdiv k _ hnum (rangeHolds_threshold ha k'') (by decide) (by decide) (by decide)

/-- The rate pi a of `CRACKED` is in [0, 4]. -/
theorem rangeHolds_rate (k : Site) : RangeHolds ⟨0, 0x40800000#32⟩ (fmul k Config.pi32 a) :=
  rangeHolds_fmul k _ (rangeHolds_self (c := Config.pi32) rfl) (rangeHolds_amount ha)
    (by decide) (by decide) (by decide)

/-- The gain 1 + a of `WARM` is in [1, 2]. -/
theorem rangeHolds_gain (k : Site) : RangeHolds ⟨Config.one, Config.two⟩ (fadd k Config.one a) :=
  rangeHolds_fadd k _ (rangeHolds_self (c := Config.one) rfl) (rangeHolds_amount ha)
    (by decide) (by decide)

/-- The number 64 (1 - a) of levels of `QUANTIZE` is in [1/2, 64]. -/
theorem rangeHolds_levels (k k' : Site) : RangeHolds ⟨Config.half, Config.sixtyFour⟩
    (fmul k (fsub k' Config.one a) Config.sixtyFour) :=
  rangeHolds_fmul k _ (rangeHolds_threshold ha k') (rangeHolds_self (c := Config.sixtyFour) rfl)
    (by decide) (by decide) (by decide)

/-- The rate 1 + 8a of `FUZZ` is in [1, 16]. -/
theorem rangeHolds_fuzzRate (k k' : Site) : RangeHolds ⟨Config.one, 0x41800000#32⟩
    (fadd k Config.one (fmul k' Config.eight a)) := by
  have hterm : RangeHolds ⟨0, Config.eight⟩ (fmul k' Config.eight a) :=
    rangeHolds_fmul k' _ (rangeHolds_self (c := Config.eight) rfl) (rangeHolds_amount ha)
      (by decide) (by decide) (by decide)
  exact rangeHolds_fadd k _ (rangeHolds_self (c := Config.one) rfl) hterm (by decide) (by decide)

end

end Sys2Proof.Machine
end

section
/-! PROOF. `HARDCLIP` (44_waveshaper.md R173): below the output clamp it is the clamp of the sample to the
threshold on either side, and a clamp to bounds of opposite sign is odd. -/

namespace Sys2Proof.Machine

/-! ## A clamp to bounds of opposite sign -/

theorem flt_fneg (a b : Word) : flt (fneg a) (fneg b) = flt b a := by
  simp only [flt, isNaN_fneg, value_fneg, Int.neg_lt_neg_iff]
  rw [Bool.and_comm (!isNaN a)]

/-- The order in which the bounds are tested matters to no value. -/
theorem clampF_eq_upper_first {lo hi : Word} (hle : fle lo hi = true) (v d : Word) :
    clampF v lo hi d = if isNaN v then d else if fgt v hi then hi else if flt v lo then lo else v := by
  cases habove : fgt v hi with
  | true =>
    obtain ⟨-, hnan, -⟩ := flt_iff.1 habove
    simp [clampF_of_fgt d hle habove, hnan]
  | false => simp [clampF, habove]

section
variable {v u : Word} (hv : isNaN v = false) (hu : fle (fneg u) u = true)
include hv hu

/-- A clamp to bounds of opposite sign is odd, whatever its default. -/
theorem clampF_fneg (d d' : Word) : clampF (fneg v) (fneg u) u d = fneg (clampF v (fneg u) u d') := by
  obtain ⟨hlo, hhi⟩ := not_isNaN_of_fle hu
  cases hbelow : flt v (fneg u) with
  | true =>
    have habove : fgt (fneg v) u = true := by rwa [fgt, ← flt_fneg, fneg_fneg]
    rw [clampF_of_flt d' hbelow, clampF_of_fgt d hu habove, fneg_fneg]
  | false =>
    cases habove : fgt v u with
    | true => rw [clampF_of_fgt d' hu habove, clampF_of_flt d ((flt_fneg v u).trans habove)]
    | false =>
      have hin : within (fneg u) u v = true := (within_iff hlo hhi v).2 ⟨hv, hbelow, habove⟩
      have hneg := within_fneg hin
      rw [fneg_fneg] at hneg
      rw [clampF_of_within d' hin, clampF_of_within d hneg]

end

/-- The output clamp is odd (R108). -/
theorem sat1_fneg {v : Word} (hv : isNaN v = false) : sat1 (fneg v) = fneg (sat1 v) := by
  rw [sat1_eq_clampF, sat1_eq_clampF]
  exact clampF_fneg (u := Config.one) hv (by decide) _ _

theorem sat1_of_within {v : Word} (h : within Config.negOne Config.one v = true) : sat1 v = v :=
  (sat1_eq_clampF v).trans (clampF_of_within _ h)

/-! ## The threshold -/

theorem fle_fneg_of_pos {u : Word} (hu : flt 0 u = true) : fle (fneg u) u = true := by
  obtain ⟨-, hnan, hpos⟩ := flt_iff.1 hu
  have hpos : 0 < value u := hpos
  rw [fle_iff, isNaN_fneg, value_fneg]
  exact ⟨hnan, hnan, by omega⟩

theorem value_fabs (a : Word) : value (fabs a) = |value a| := by
  rw [value_of_signBit (signBit_fabs a), Int.abs_eq_natAbs, natAbs_value, mag, expo_fabs, frac_fabs, mag]
  rfl

theorem isNaN_fabs (a : Word) : isNaN (fabs a) = isNaN a := by
  rw [isNaN, expo_fabs, frac_fabs, isNaN]

theorem within_of_fle_fabs {x u : Word} (h : fle (fabs x) u = true) : within (fneg u) u x = true := by
  obtain ⟨hnan, hu, hle⟩ := fle_iff.1 h
  rw [value_fabs, abs_le] at hle
  rw [isNaN_fabs] at hnan
  rw [within_iff_value, isNaN_fneg, value_fneg]
  exact ⟨hu, hu, hnan, hle⟩

/-- A NaN is the default of the clamp that `HARDCLIP` makes. -/
theorem shapeHardclip_eq_clampF {k : Site} {a : Word}
    (hu : fle (fneg (fsub (0 :: k) Config.one a)) (fsub (0 :: k) Config.one a) = true) (x : Word) :
    shapeHardclip k x a =
      sat1 (clampF x (fneg (fsub (0 :: k) Config.one a)) (fsub (0 :: k) Config.one a) x) := by
  rw [shapeHardclip, clampF_eq_upper_first hu]

theorem isNaN_clampF {v lo hi d : Word} (hle : fle lo hi = true) (hv : isNaN v = false) :
    isNaN (clampF v lo hi d) = false := by
  obtain ⟨hlo, hhi⟩ := not_isNaN_of_fle hle
  rw [clampF, if_neg (by simp [hv])]
  split_ifs <;> assumption

/-- The range of the threshold is part of that of the output. -/
theorem within_one_of_within_threshold {x a : Word} {k : Site} (ha : within 0 0x3F7D70A4#32 a = true)
    (hx : within (fneg (fsub k Config.one a)) (fsub k Config.one a) x = true) :
    within Config.negOne Config.one x = true := by
  obtain ⟨-, hle⟩ := (rangeHolds_threshold ha k).value_bounds
  have hnan := isNaN_of_isFinite (rangeHolds_threshold ha k).isFinite
  refine within_mono hx (fle_iff.2 ⟨rfl, by rwa [isNaN_fneg], ?_⟩) (fle_iff.2 ⟨hnan, rfl, hle⟩)
  rw [value_fneg]
  exact Int.neg_le_neg hle

/-- Settles O45: the threshold is a number in [2^-7, 1], the same at every place. -/
theorem hardclipOddAndTransparent : Obligations.HardclipOddAndTransparent := by
  unfold Obligations.HardclipOddAndTransparent
  intro k k' x a hx ha
  have hrange := rangeHolds_threshold ha (0 :: k)
  have hsym := fle_fneg_of_pos (hrange.pos (by decide))
  have hclip := shapeHardclip_eq_clampF hsym
  simp only [shape, shapeHardclip_place k' k]
  refine ⟨?_, fun hle => ?_⟩
  · rw [hclip, hclip, ← sat1_fneg (isNaN_clampF hsym hx), clampF_fneg hx hsym _ x]
  · have hthr : fsub (0 :: k) Config.one a = fsub k' 0x3F800000#32 a :=
      (sameNumber_threshold (0 :: k) k' a).eq_of_isFinite hrange.isFinite
    have hin := within_of_fle_fabs (hthr ▸ hle)
    rw [hclip, clampF_of_within x hin, sat1_of_within (within_one_of_within_threshold ha hin)]

end Sys2Proof.Machine
end

section
/-! PROOF. Zeros in, zeros out (44_waveshaper.md R183): the factors and divisors of the sample are positive
finite numbers, so a zero passes each with its sign. -/

namespace Sys2Proof.Machine

/-! ## A zero operand (40_numerics.md R92) -/

theorem signBit_of_pos {b : Word} (hb : flt 0 b = true) : signBit b = false := by
  obtain ⟨-, -, hpos⟩ := flt_iff.1 hb
  have hpos : 0 < value b := hpos
  by_contra h
  rw [value_of_signBit (Bool.eq_true_of_not_eq_false h), if_pos rfl] at hpos
  omega

theorem isZero_of_pos {b : Word} (hb : flt 0 b = true) : isZero b = false := by
  obtain ⟨-, -, hpos⟩ := flt_iff.1 hb
  rw [← Bool.not_eq_true, ← value_eq_zero_iff]
  exact hpos.ne'

section
variable {z : Word} (hz : isZero z = true)
include hz

theorem mag_of_isZero : mag z = 0 := by simpa [isZero] using hz

theorem isNaN_of_isZero : isNaN z = false := isNaN_of_isFinite (isFinite_of_isZero hz)

theorem fmul_of_isZero_left (k : Site) {b : Word} (hb : isFinite b = true) :
    fmul k z b = zeroOf (signBit z != signBit b) := by
  rw [fmul_of_isFinite k (isFinite_of_isZero hz) hb, mag_of_isZero hz, Nat.zero_mul, roundTo_zero]

section
variable (k : Site) {b : Word} (hb : isFinite b = true) (hpos : flt 0 b = true)
include hb hpos

theorem zero_fmul_of_pos : fmul k z b = z := by
  rw [fmul_of_isZero_left hz k hb, signBit_of_pos hpos, Bool.bne_false, zeroOf_signBit hz]

theorem fmul_zero_of_pos : fmul k b z = z := (fmul_comm k b z).trans (zero_fmul_of_pos hz k hb hpos)

theorem zero_fdiv_of_pos : fdiv k z b = z := by
  rw [fdiv_of_isFinite k (isFinite_of_isZero hz) hb (isZero_of_pos hpos), mag_of_isZero hz,
    Nat.zero_mul, roundTo_zero, signBit_of_pos hpos, Bool.bne_false, zeroOf_signBit hz]

end

theorem frint_of_isZero : frint z = z := by
  obtain ⟨hfin, hsign, hmag⟩ := frint_of_isFinite (isFinite_of_isZero hz)
  rw [mag_of_isZero hz] at hmag
  exact eq_of_signBit_of_mag hfin (isFinite_of_isZero hz) hsign (hmag.trans (mag_of_isZero hz).symm)

theorem one_fadd_of_isZero (k : Site) : fadd k Config.one z = Config.one :=
  fadd_of_isZero_right k rfl rfl hz

theorem one_fsub_of_isZero (k : Site) : fsub k Config.one z = Config.one :=
  one_fadd_of_isZero (by rwa [isZero_fneg]) k

theorem isZero_fabs : isZero (fabs z) = true := by
  rw [← value_eq_zero_iff, value_fabs, (value_eq_zero_iff z).2 hz, abs_zero]

theorem flt_fabs_of_isZero {u : Word} (hu : flt 0 u = true) : flt (fabs z) u = true := by
  obtain ⟨-, hnan, hpos⟩ := flt_iff.1 hu
  rw [flt_iff, isNaN_fabs, (value_eq_zero_iff _).2 (isZero_fabs hz)]
  exact ⟨isNaN_of_isZero hz, hnan, hpos⟩

/-- A zero lies between a positive number and its negative. -/
theorem within_fneg_of_isZero {u : Word} (hu : flt 0 u = true) : within (fneg u) u z = true := by
  obtain ⟨hnan, hnan', hlt⟩ := flt_iff.1 (flt_fabs_of_isZero hz hu)
  exact within_of_fle_fabs (fle_iff.2 ⟨hnan, hnan', hlt.le⟩)

theorem sat1_of_isZero : sat1 z = z :=
  sat1_of_within (within_fneg_of_isZero hz (u := Config.one) (by decide))

end

/-- The only amount in range with the sign bit set is -0.0. -/
theorem signBit_amount_iff {a : Word} (ha : within 0 0x3F7D70A4#32 a = true) :
    signBit a = true ↔ a = 0x80000000#32 := by
  obtain ⟨hge, -⟩ := (rangeHolds_amount ha).value_bounds
  have hge : 0 ≤ value a := hge
  rw [eq_negZero_iff]
  refine ⟨fun hsign => ⟨?_, hsign⟩, fun ⟨_, hsign⟩ => hsign⟩
  rw [value_of_signBit hsign, if_pos rfl] at hge
  rw [isZero, beq_iff_eq]
  omega

/-! ## The kinds at a zero (R173 to R181) -/

section
variable {x a : Word} (hx : isZero x = true) (ha : within 0 0x3F7D70A4#32 a = true) (k : Site)
include hx ha

theorem shapeCracked_of_isZero : shapeCracked f_cos k x a = x := by
  have hrate := (rangeHolds_rate ha (3 :: k)).isFinite
  have hphase : isZero (fmul (2 :: k) (fmul (3 :: k) Config.pi32 a) x) = true :=
    isZero_fmul_of_isZero _ hrate hx
  have hsquare : fmul (1 :: k) x x = 0 := by
    rw [fmul_of_isZero_left hx _ (isFinite_of_isZero hx), bne_self_eq_false]
    rfl
  have hcube : fmul (0 :: k) 0 x = x := by
    rw [fmul_zero_left _ (isFinite_of_isZero hx), zeroOf_signBit hx]
  simp only [shapeCracked, f_cos_of_isZero hphase, hsquare, hcube]
  rw [zero_fmul_of_pos hx _ rfl (by decide), sat1_of_isZero hx]

theorem shapeHardclip_of_isZero : shapeHardclip k x a = x := by
  have hpos := (rangeHolds_threshold ha (0 :: k)).pos (by decide)
  rw [shapeHardclip_eq_clampF (fle_fneg_of_pos hpos), clampF_of_within x (within_fneg_of_isZero hx hpos),
    sat1_of_isZero hx]

theorem shapeSoftclip_of_isZero : shapeSoftclip k x a = x := by
  have hdrive := rangeHolds_drive ha (0 :: k) (1 :: k) (2 :: k)
  have hgain : RangeHolds ⟨Config.one, 0x44000000#32⟩ (fadd (5 :: k) Config.one _) :=
    rangeHolds_fadd _ _ (rangeHolds_self (c := Config.one) rfl) hdrive (by decide) (by decide)
  have hterm := isZero_fmul_of_isZero (7 :: k) hdrive.isFinite (isZero_fabs hx)
  rw [shapeSoftclip, fmul_zero_of_pos hx _ hgain.isFinite (hgain.pos (by decide)),
    one_fadd_of_isZero hterm, zero_fdiv_of_pos hx _ rfl (by decide), sat1_of_isZero hx]

theorem shapeGnome_of_isZero : shapeGnome k x a = x := by
  have hthr := rangeHolds_threshold ha (0 :: k)
  have hpos := hthr.pos (by decide)
  have hsum : fadd (2 :: k) (fabs x) (fsub (0 :: k) Config.one a) = fsub (0 :: k) Config.one a := by
    rw [fadd_comm]
    exact fadd_of_isZero_right _ (isNaN_of_isFinite hthr.isFinite) (isZero_of_pos hpos) (isZero_fabs hx)
  rw [shapeGnome, hsum, zero_fdiv_of_pos hx _ hthr.isFinite hpos, sat1_of_isZero hx]

theorem shapeWarm_of_isZero : shapeWarm k x a = x := by
  have hgain := rangeHolds_gain ha (2 :: k)
  have hterm := isZero_fmul_of_isZero (4 :: k) (rangeHolds_amount ha).isFinite hx
  have hge : fge x Config.zero = true :=
    fle_iff.2 ⟨rfl, isNaN_of_isZero hx, ((value_eq_zero_iff x).2 hx).ge⟩
  rw [shapeWarm, if_pos hge, fmul_zero_of_pos hx _ hgain.isFinite (hgain.pos (by decide)),
    one_fadd_of_isZero hterm, zero_fdiv_of_pos hx _ rfl (by decide), sat1_of_isZero hx]

theorem shapeQuantize_of_isZero : shapeQuantize k x a = x := by
  have hlevels := rangeHolds_levels ha (0 :: k) (1 :: k)
  have hpos := hlevels.pos (by decide)
  rw [shapeQuantize, zero_fmul_of_pos hx _ hlevels.isFinite hpos, frint_of_isZero hx,
    zero_fdiv_of_pos hx _ hlevels.isFinite hpos, sat1_of_isZero hx]

theorem shapeFuzz_of_isZero : shapeFuzz f_sin k x a = x := by
  have hrate := rangeHolds_fuzzRate ha (2 :: k) (3 :: k)
  rw [shapeFuzz, fmul_zero_of_pos hx (1 :: k) rfl (by decide),
    zero_fmul_of_pos hx _ hrate.isFinite (hrate.pos (by decide)), f_sin_of_isZero hx, sat1_of_isZero hx]

theorem shapeRash_of_isZero : shapeRash f_sin k x a = x := by
  have hpos := (rangeHolds_threshold ha (0 :: k)).pos (by decide)
  rw [shapeRash, if_pos (flt_fabs_of_isZero hx hpos), sat1_of_isZero hx]

/-- The subtrahend is a zero whose sign is that of the amount and the sample together, and a difference of
zeros is -0.0 only for -0.0 less +0.0 (log 21). -/
theorem shapeHollowing_of_isZero : shapeHollowing f_sin k x a =
    if x = 0x80000000#32 ∧ a = 0x80000000#32 then 0x80000000#32 else 0 := by
  have hsin : f_sin (fmul (2 :: k) Config.pi32 x) = x := by
    rw [fmul_zero_of_pos hx _ rfl (by decide), f_sin_of_isZero hx]
  have hproduct : fmul (1 :: k) a x = zeroOf (signBit x != signBit a) := by
    rw [fmul_comm, fmul_of_isZero_left hx _ (rangeHolds_amount ha).isFinite]
  have hdiff : value x - value (zeroOf (signBit x != signBit a)) = 0 := by
    rw [(value_eq_zero_iff _).2 hx, (value_eq_zero_iff _).2 (isZero_zeroOf _), sub_zero]
  have hiff : (x = 0x80000000#32 ∧ zeroOf (signBit x != signBit a) = 0) ↔
      (x = 0x80000000#32 ∧ a = 0x80000000#32) := by
    refine and_congr_right fun hneg => ?_
    rw [hneg, ← signBit_amount_iff ha]
    cases signBit a <;> decide
  rw [shapeHollowing, hsin, hproduct,
    fsub_of_difference_zero _ (isFinite_of_isZero hx) (isFinite_zeroOf _) hdiff]
  simp only [hiff, apply_ite sat1]
  rfl

end

/-- Every other kind gives a zero back as it is. -/
theorem shape_of_isZero {x a : Word} (hx : isZero x = true) (ha : within 0 0x3F7D70A4#32 a = true)
    (k : Site) {kind : Kind} (hkind : kind ≠ .hollowing) : shape f_sin f_cos k kind x a = x := by
  cases kind with
  | hardclip => exact shapeHardclip_of_isZero hx ha k
  | softclip => exact shapeSoftclip_of_isZero hx ha k
  | cracked => exact shapeCracked_of_isZero hx ha k
  | gnome => exact shapeGnome_of_isZero hx ha k
  | warm => exact shapeWarm_of_isZero hx ha k
  | quantize => exact shapeQuantize_of_isZero hx ha k
  | fuzz => exact shapeFuzz_of_isZero hx ha k
  | hollowing => exact absurd rfl hkind
  | rash => exact shapeRash_of_isZero hx ha k

/-- Settles O46: `HOLLOWING` is the one kind whose last step before the clamp is a difference of zeros. -/
theorem waveshaperZeroInZeroOut : Obligations.WaveshaperZeroInZeroOut := by
  unfold Obligations.WaveshaperZeroInZeroOut
  intro k a ha
  refine ⟨fun kind => ?_, fun kind => shape_of_isZero rfl ha k, ?_⟩
  · by_cases hkind : kind = .hollowing
    · rw [hkind]
      exact (shapeHollowing_of_isZero rfl ha k).trans
        (if_neg fun ⟨h, _⟩ => absurd h (by decide))
    · exact shape_of_isZero rfl ha k hkind
  · exact (shapeHollowing_of_isZero rfl ha k).trans (by simp)

end Sys2Proof.Machine
end

section
/-! PROOF. The amount +0.0 (44_waveshaper.md R184): the threshold is 1.0, the products with the amount are
zeros, and what is left of five kinds is the output clamp. -/

namespace Sys2Proof.Machine

/-! ## The output clamp (40_numerics.md R108) -/

/-- Clamping to [-1, 1] before the output clamp changes nothing. -/
theorem sat1_clampF (x : Word) : sat1 (clampF x Config.negOne Config.one x) = sat1 x := by
  cases hx : isNaN x with
  | true => rw [clampF_of_isNaN x hx]
  | false =>
    have hclamp : clampF x Config.negOne Config.one x = sat1 x := by simp [sat1_eq_clampF, clampF, hx]
    rw [hclamp, sat1_of_within (within_sat1 x)]

theorem feq_sat1_self (x : Word) : feq (sat1 x) (sat1 x) = true :=
  feq_refl (isNaN_of_within _ _ _ (within_sat1 x))

theorem feq_sat1 {v x : Word} (h : feq v x = true) : feq (sat1 v) (sat1 x) = true := by
  obtain ⟨hv, hx, hval⟩ := feq_iff.1 h
  have habove : fgt v Config.one = fgt x Config.one := by simp [fgt, flt, hv, hx, hval]
  have hbelow : flt v Config.negOne = flt x Config.negOne := by simp [flt, hv, hx, hval]
  simp only [sat1, hv, hx, habove, hbelow, Bool.false_eq_true, if_false]
  split_ifs
  · decide
  · decide
  · exact h

/-- A zero added to the sample before the clamp leaves the output as it is in value; at a NaN sample it need
not be a zero. -/
theorem feq_sat1_fadd (k : Site) {x z : Word} (hz : isNaN x = true ∨ isZero z = true) :
    feq (sat1 (fadd k x z)) (sat1 x) = true := by
  cases hx : isNaN x with
  | true =>
    rw [SameNumber.sat1_eq (.inr ⟨isNaN_fadd_of_isNaN k (.inl hx), hx⟩)]
    exact feq_sat1_self x
  | false => exact feq_sat1 (feq_fadd_of_isZero k hx (hz.resolve_left (by simp [hx])))

/-! ## The terms of the amount +0.0 -/

theorem isZero_zero_fmul (k : Site) {a : Word} (ha : isFinite a = true) : isZero (fmul k 0 a) = true := by
  rw [fmul_zero_left k ha, isZero_zeroOf]

theorem one_fadd_zero_fmul (k k' : Site) {a : Word} (ha : isFinite a = true) :
    fadd k Config.one (fmul k' 0 a) = Config.one := one_fadd_of_isZero (isZero_zero_fmul k' ha) k

theorem one_fsub_zero_fmul (k k' : Site) {a : Word} (ha : isFinite a = true) :
    fsub k Config.one (fmul k' 0 a) = Config.one := one_fsub_of_isZero (isZero_zero_fmul k' ha) k

/-- The sine term, in a product with the amount, is a zero where its phase is finite. -/
theorem isZero_zero_fmul_f_sin (k k' : Site) {c x : Word} (h : isFinite (fmul k' c x) = true)
    (k'' : Site) : isZero (fmul k 0 (f_sin (fmul k'' c x))) = true := by
  rw [← (sameNumber_fmul_place k' k'' c x).eq_of_isFinite h]
  exact isZero_zero_fmul k (isFinite_of_within rfl rfl (within_f_sin h))

theorem fdiv_one (k : Site) {x : Word} (hx : isFinite x = true) : fdiv k x Config.one = x := by
  rw [fdiv_of_isFinite k hx rfl rfl, show signBit Config.one = false from rfl, Bool.bne_false]
  exact roundTo_mag hx (by decide)

theorem isFinite_fabs (a : Word) : isFinite (fabs a) = isFinite a := by
  rw [isFinite, expo_fabs, isFinite]

/-! ## The kinds at the amount +0.0 -/

section
variable (k : Site) {x : Word}

theorem shapeHardclip_zero_amount : shapeHardclip k x 0 = sat1 x := by
  have hthr : fsub (0 :: k) Config.one 0 = Config.one := one_fsub_of_isZero rfl _
  rw [shapeHardclip_eq_clampF (by rw [hthr]; decide), hthr]
  exact sat1_clampF x

theorem shapeSoftclip_zero_amount (hx : isInf x = false) : shapeSoftclip k x 0 = sat1 x := by
  refine SameNumber.sat1_eq ?_
  cases hnan : isNaN x with
  | true => exact .inr ⟨isNaN_fdiv_of_isNaN _ (.inl (isNaN_fmul_of_isNaN _ (.inr hnan))), hnan⟩
  | false =>
    have hfin := isFinite_of_not_isNaN_of_not_isInf hnan hx
    have hdrive : fdiv (0 :: k) (fmul (1 :: k) Config.two 0) (fsub (2 :: k) Config.one 0) = 0 := by
      rw [one_fsub_of_isZero rfl, fmul_zero_of_pos rfl _ rfl (by decide),
        zero_fdiv_of_pos rfl _ rfl (by decide)]
    have hproduct : fmul (4 :: k) Config.one x = x := one_fmul _ hnan
    simp only [hdrive]
    rw [one_fadd_of_isZero rfl, hproduct, one_fadd_zero_fmul _ _ (by rwa [isFinite_fabs]), fdiv_one _ hfin]
    exact .refl x

theorem shapeWarm_zero_amount (hx : isInf x = false) : shapeWarm k x 0 = sat1 x := by
  cases hnan : isNaN x with
  | true =>
    have hbelow : fge x Config.zero = false := by simp [fge, fle, hnan]
    rw [shapeWarm, if_neg (by simp [hbelow])]
    exact SameNumber.sat1_eq (.inr ⟨isNaN_fdiv_of_isNaN _ (.inl hnan), hnan⟩)
  | false =>
    have hfin := isFinite_of_not_isNaN_of_not_isInf hnan hx
    have hproduct : fmul (1 :: k) Config.one x = x := one_fmul _ hnan
    rw [shapeWarm, one_fadd_of_isZero rfl, hproduct, one_fadd_zero_fmul _ _ hfin,
      one_fsub_zero_fmul _ _ hfin, fdiv_one _ hfin, fdiv_one _ hfin, ite_self]

theorem feq_shapeHollowing_zero_amount {k' : Site}
    (hx : isNaN x = true ∨ isFinite (fmul k' Config.pi32 x) = true) :
    feq (shapeHollowing f_sin k x 0) (sat1 x) = true :=
  feq_sat1_fadd _ (hx.imp_right fun h => by
    rw [isZero_fneg]
    exact isZero_zero_fmul_f_sin _ k' h _)

theorem feq_shapeRash_zero_amount {k' : Site}
    (hx : isNaN x = true ∨ isFinite (fmul k' x Config.fiveTwelve) = true) :
    feq (shapeRash f_sin k x 0) (sat1 x) = true := by
  simp only [shapeRash]
  split
  · exact feq_sat1_self x
  · rw [zero_fmul_of_pos (z := 0) rfl _ rfl (by decide)]
    exact feq_sat1_fadd _ (hx.imp_right fun h => isZero_zero_fmul_f_sin _ k' h _)

end

/-- Settles O47: `HARDCLIP`, `SOFTCLIP` and `WARM` give the clamped sample bit for bit, `HOLLOWING` and `RASH`
up to the sign of a zero. -/
theorem fiveKindsTransparentAtZeroAmount : Obligations.FiveKindsTransparentAtZeroAmount := by
  unfold Obligations.FiveKindsTransparentAtZeroAmount
  intro k x
  refine ⟨?_, fun hx => ⟨?_, ?_⟩, feq_shapeHollowing_zero_amount k, feq_shapeRash_zero_amount k⟩
  · rw [shape, shapeHardclip_zero_amount]
    exact feq_sat1_self x
  · rw [shape, shapeSoftclip_zero_amount k hx]
    exact feq_sat1_self x
  · rw [shape, shapeWarm_zero_amount k hx]
    exact feq_sat1_self x

end Sys2Proof.Machine
end

section
/-! PROOF. The snapshot (45_coefficient_update.md R191) and the command UPDATE (R209): what each field of the
snapshot is, and what UPDATE makes of the state. -/

namespace Sys2Proof.Machine

/-! ## The snapshot (R191) -/

/-- What `clampF` makes of a value, in the terms of the statements (40_numerics.md R109). -/
theorem clampedFrom_clampF {lo hi d : Word} (hle : fle lo hi = true) (hd : within lo hi d = true) (v : Word) :
    ClampedFrom (clampF v lo hi d) v lo hi d :=
  ⟨within_clampF hle hd v, clampF_of_within d, clampF_of_flt d, clampF_of_fgt d hle, clampF_of_isNaN d⟩

theorem kindsel_reference (u : Nat) : kindsel .reference u = if u ≤ 8 then u else 0 := by
  rw [kindsel, Params.reference_nkind]
  by_cases hu : u ≤ 8
  · rw [if_neg (by omega), if_pos hu]
  · rw [if_pos (by omega), if_neg hu]

/-- Settles O31: every field is the clamp of its register, or the selection of a slope or a kind. -/
theorem snapshotInRange : Obligations.SnapshotInRange := by
  unfold Obligations.SnapshotInRange
  intro s
  exact ⟨clampedFrom_clampF (by decide) (by decide) _, snapshot_lcq _ s,
    clampedFrom_clampF (by decide) (by decide) _, clampedFrom_clampF (by decide) (by decide) _,
    clampedFrom_clampF (by decide) (by decide) _, clampedFrom_clampF (by decide) (by decide) _,
    snapshot_hcq _ s, clampedFrom_clampF (by decide) (by decide) _,
    clampedFrom_clampF (by decide) (by decide) _, clampedFrom_clampF (by decide) (by decide) _,
    kindsel_reference _, clampedFrom_clampF (by decide) (by decide) _,
    clampedFrom_clampF (by decide) (by decide) _⟩

/-! ## The command (R209) -/

/-- Settles O29: `UPDATE` is the updater, which writes the binding alone, and its answer. -/
theorem updateCompletes : Obligations.UpdateCompletes := by
  unfold Obligations.UpdateCompletes
  intro s hs
  have hframe := updateProc_frame .reference s.site s.draw
  have hbound := updateProc_boundFrom s.site s.draw
  refine ⟨_, exec_update hs, ?_, hbound.congr rfl rfl⟩
  generalize updateProc .reference s.site s.draw = u at hframe ⊢
  rw [hframe]
  rfl

end Sys2Proof.Machine
end

section
/-! PROOF. Every coefficient the updater computes is finite (45_coefficient_update.md R196 to R201, R205): each
term of the designs lies in a range with finite ends, and every divisor in one that begins above zero. So
every step keeps the stored coefficients finite. -/

namespace Sys2Proof.Machine

/-! ## Ranges of either sign -/

theorem RangeHolds.mono {g g' : Range} {a : Word} (h : RangeHolds g a)
    (hfin : Machine.isFinite g'.lo = true ∧ Machine.isFinite g'.hi = true)
    (hle : fle g'.lo g.lo = true ∧ fle g.hi g'.hi = true) : RangeHolds g' a := by
  obtain ⟨-, -, hin⟩ := h
  exact ⟨hfin.1, hfin.2, within_mono hin hle.1 hle.2⟩

theorem RangeHolds.fle_hi {g : Range} {a : Word} (h : RangeHolds g a) : fle a g.hi = true := by
  obtain ⟨-, -, hin⟩ := h
  rw [within, Bool.and_eq_true] at hin
  exact hin.2

/-- The values of a magnitude up to that of `u`. -/
abbrev symmetricRange (u : Word) : Range := ⟨fneg u, u⟩

theorem RangeHolds.abs_value_le {u a : Word} (h : RangeHolds (symmetricRange u) a) :
    |(value a : ℝ)| ≤ value u := by
  obtain ⟨hlo, hhi⟩ := h.value_bounds
  rw [value_fneg] at hlo
  exact abs_le.2 ⟨by exact_mod_cast hlo, by exact_mod_cast hhi⟩

theorem CorrectlyRounded.rangeHolds_symmetric {r u : Word} {x : ℝ} (h : CorrectlyRounded r x)
    (hu : isFinite u = true) (hx : |x| ≤ value u) : RangeHolds (symmetricRange u) r := by
  obtain ⟨hlow, hhigh⟩ := abs_le.1 hx
  exact h.rangeHolds (by rwa [isFinite_fneg]) hu (by simpa using hlow) hhigh

theorem rangeHolds_fmul_symmetric (k : Site) {u v a b : Word} (w : Word)
    (ha : RangeHolds (symmetricRange u) a) (hb : RangeHolds (symmetricRange v) b)
    (hw : isFinite w = true) (h : value u * value v ≤ value w * 2 ^ 149) :
    RangeHolds (symmetricRange w) (fmul k a b) := by
  refine (correctlyRounded_fmul k ha.isFinite hb.isFinite).rangeHolds_symmetric hw ?_
  rw [abs_div, abs_mul, abs_of_pos (by positivity : (0 : ℝ) < 2 ^ 149), div_le_iff₀ (by positivity)]
  calc |(value a : ℝ)| * |(value b : ℝ)| ≤ value u * value v :=
        mul_le_mul ha.abs_value_le hb.abs_value_le (abs_nonneg _) ((abs_nonneg _).trans ha.abs_value_le)
    _ ≤ value w * 2 ^ 149 := by exact_mod_cast h

/-- A divisor of at least 1.0 makes no magnitude larger. -/
theorem rangeHolds_fdiv_symmetric (k : Site) {u m a b : Word}
    (ha : RangeHolds (symmetricRange u) a) (hb : RangeHolds ⟨Config.one, m⟩ b) :
    RangeHolds (symmetricRange u) (fdiv k a b) := by
  obtain ⟨hone, -⟩ := hb.value_bounds
  have hunit : value Config.one = 2 ^ 149 := by decide
  rw [hunit] at hone
  have hzero : isZero b = false := by
    rw [← Bool.not_eq_true, ← value_eq_zero_iff]
    omega
  have hone' : (2 ^ 149 : ℝ) ≤ value b := by exact_mod_cast hone
  have hpos : (0 : ℝ) < value b := lt_of_lt_of_le (by positivity) hone'
  refine (correctlyRounded_fdiv k ha.isFinite hb.isFinite hzero).rangeHolds_symmetric ha.2.1 ?_
  rw [abs_div, abs_mul, abs_of_pos hpos, abs_of_pos (by positivity : (0 : ℝ) < 2 ^ 149), div_le_iff₀ hpos]
  exact mul_le_mul ha.abs_value_le hone' (by positivity) ((abs_nonneg _).trans ha.abs_value_le)

/-- The root of a range, in units of 2^-149. -/
theorem rangeHolds_fsqrt (k : Site) {g₁ : Range} {a : Word} (g : Range) (ha : RangeHolds g₁ a)
    (hg : isFinite g.lo = true ∧ isFinite g.hi = true) (hnonneg : 0 ≤ value g₁.lo ∧ 0 ≤ value g.hi)
    (h : value g.lo ^ 2 ≤ value g₁.lo * 2 ^ 149 ∧ value g₁.hi * 2 ^ 149 ≤ value g.hi ^ 2) :
    RangeHolds g (fsqrt k a) := by
  obtain ⟨hage, hale⟩ := ha.value_bounds
  obtain ⟨hlow, hhigh⟩ := h
  refine (correctlyRounded_fsqrt k ha.isFinite (hnonneg.1.trans hage)).rangeHolds hg.1 hg.2 ?_ ?_
  · have hle : value g.lo ^ 2 ≤ value a * 2 ^ 149 := hlow.trans (by gcongr)
    exact Real.le_sqrt_of_sq_le (by exact_mod_cast hle)
  · rw [Real.sqrt_le_iff]
    have hle : value a * 2 ^ 149 ≤ value g.hi ^ 2 := le_trans (by gcongr) hhigh
    exact ⟨by exact_mod_cast hnonneg.2, by exact_mod_cast hle⟩

/-! ## The frequencies (R198, R201) -/

section
variable {fc fs : Word} (hfc : RangeHolds ⟨Config.freqMin, Config.freqMax⟩ fc)
  (hfs : RangeHolds ⟨Config.fsMin, Config.fsMax⟩ fs) (k : Site)
include hfc hfs

/-- The operand of `f_tan` lies in the domain of its contract, between pi 2^-14 and pi 117/256. -/
theorem rangeHolds_cutoffAngle (k' : Site) : RangeHolds ⟨tanDomainMin, tanDomainMax⟩
    (fmul k Config.pi32 (fdiv k' fc fs)) := by
  have hratio : RangeHolds ⟨0x38800000#32, 0x3EEA0000#32⟩ (fdiv k' fc fs) :=
    rangeHolds_fdiv k' _ hfc hfs (by decide) (by decide) (by decide)
  exact rangeHolds_fmul k _ (rangeHolds_self (c := Config.pi32) rfl) hratio (by decide) (by decide)
    (by decide)

theorem rangeHolds_warpedCutoff :
    RangeHolds ⟨tanLow, tanHigh⟩ (warpedCutoff .reference k fc fs) := by
  obtain ⟨-, -, hin⟩ := rangeHolds_cutoffAngle hfc hfs (0 :: k) (1 :: k)
  exact ⟨rfl, rfl, within_f_tan hin⟩

/-- The angle of the peak is in [2^-12, 3], where the sine is positive. -/
theorem rangeHolds_peakOmega :
    RangeHolds ⟨0x39800000#32, sinePositiveTo⟩ (peakOmega k fc fs) := by
  have hnum : RangeHolds ⟨Config.sixtyFour, 0x48000000#32⟩ (fmul (1 :: k) Config.twoPi32 fc) :=
    rangeHolds_fmul _ _ (rangeHolds_self (c := Config.twoPi32) rfl) hfc (by decide) (by decide)
      (by decide)
  exact rangeHolds_fdiv (0 :: k) _ hnum hfs (by decide) (by decide) (by decide)

end

/-! ## The cut sections (R196, R197) -/

/-- The damping constants of the table (R195) are in [1/4, 2]. -/
theorem rangeHolds_invq : ∀ n ≤ 3, ∀ j ≤ n,
    RangeHolds ⟨Config.quarter, Config.two⟩ (Config.invq (n + 1) j) := by decide

/-- The warped cutoff of a high-pass section and the reciprocal of that of a low-pass section are both in
[2^-14, 2^14]; the terms of the two designs are the same functions of it. -/
abbrev prototypeRange : Range := ⟨0x38800000#32, 0x46800000#32⟩

section
variable {h d : Word} (hh : RangeHolds prototypeRange h) (hd : RangeHolds ⟨Config.quarter, Config.two⟩ d)
  (k : Site)

include hh in
theorem rangeHolds_prototypeSquare : RangeHolds ⟨0, 0x4D800000#32⟩ (fmul k h h) :=
  rangeHolds_fmul k _ hh hh (by decide) (by decide) (by decide)

include hh in
/-- The numerator term of a1 and its negative have a magnitude up to 2^28. -/
theorem rangeHolds_squareDifference (k' : Site) :
    RangeHolds (symmetricRange 0x4D800000#32) (fsub k (fmul k' h h) Config.one) ∧
      RangeHolds (symmetricRange 0x4D800000#32) (fsub k Config.one (fmul k' h h)) := by
  have hone := rangeHolds_self (c := Config.one) rfl
  have hsquare := rangeHolds_prototypeSquare hh k'
  exact ⟨rangeHolds_fadd k _ hsquare (rangeHolds_fneg hone) (by decide) (by decide),
    rangeHolds_fadd k _ hone (rangeHolds_fneg hsquare) (by decide) (by decide)⟩

include hh hd

theorem rangeHolds_dampingTerm : RangeHolds ⟨0, 0x47000000#32⟩ (fmul k d h) :=
  rangeHolds_fmul k _ hd hh (by decide) (by decide) (by decide)

/-- The divisor of the design is at least 1, so its reciprocal, c1, is in [0, 1]. -/
theorem rangeHolds_normalizer (k₁ k₂ k₃ k₄ : Site) : RangeHolds ⟨0, Config.one⟩
    (fdiv k Config.one (fadd k₁ (fadd k₂ Config.one (fmul k₃ d h)) (fmul k₄ h h))) := by
  have hone := rangeHolds_self (c := Config.one) rfl
  have hdamped : RangeHolds ⟨Config.one, 0x47800000#32⟩ (fadd k₂ Config.one (fmul k₃ d h)) :=
    rangeHolds_fadd k₂ _ hone (rangeHolds_dampingTerm hh hd k₃) (by decide) (by decide)
  have hdivisor : RangeHolds ⟨Config.one, 0x4E000000#32⟩
      (fadd k₁ (fadd k₂ Config.one (fmul k₃ d h)) (fmul k₄ h h)) :=
    rangeHolds_fadd k₁ _ hdamped (rangeHolds_prototypeSquare hh k₄) (by decide) (by decide)
  exact rangeHolds_fdiv k _ hone hdivisor (by decide) (by decide) (by decide)

/-- The numerator term of a2. -/
theorem rangeHolds_undampedTerm (k₁ k₂ k₃ : Site) : RangeHolds (symmetricRange 0x4E000000#32)
    (fadd k (fsub k₁ Config.one (fmul k₂ d h)) (fmul k₃ h h)) := by
  have hdiff : RangeHolds (symmetricRange 0x47000000#32) (fsub k₁ Config.one (fmul k₂ d h)) :=
    rangeHolds_fadd k₁ _ (rangeHolds_self (c := Config.one) rfl)
      (rangeHolds_fneg (rangeHolds_dampingTerm hh hd k₂)) (by decide) (by decide)
  exact rangeHolds_fadd k _ hdiff (rangeHolds_prototypeSquare hh k₃) (by decide) (by decide)

end

section
variable {c : Word} (hc : RangeHolds ⟨0, Config.one⟩ c) (k : Site)
include hc

/-- A coefficient is the normaliser, in [0, 1], times a term of bounded magnitude. -/
theorem isFinite_normalizer_fmul {u : Word} (hu : RangeHolds (symmetricRange 0x4E000000#32) u) :
    isFinite (fmul k c u) = true := by
  have hc' : RangeHolds (symmetricRange Config.one) c := hc.mono (by decide) (by decide)
  exact (rangeHolds_fmul_symmetric k 0x4E000000#32 hc' hu (by decide) (by decide)).isFinite

theorem isFinite_twice_normalizer_fmul (k' : Site) {u : Word}
    (hu : RangeHolds (symmetricRange 0x4D800000#32) u) :
    isFinite (fmul k (fmul k' c Config.two) u) = true := by
  have hc' : RangeHolds (symmetricRange Config.one) c := hc.mono (by decide) (by decide)
  have htwice : RangeHolds (symmetricRange Config.two) (fmul k' c Config.two) :=
    rangeHolds_fmul_symmetric k' _ hc' (by decide : RangeHolds (symmetricRange Config.two) Config.two)
      (by decide) (by decide)
  exact (rangeHolds_fmul_symmetric k 0x4E000000#32 htwice hu (by decide) (by decide)).isFinite

end

section
variable {g d : Word} (hg : RangeHolds ⟨tanLow, tanHigh⟩ g)
  (hd : RangeHolds ⟨Config.quarter, Config.two⟩ d) (k : Site)
include hg hd

theorem highpassSection_finite : (highpassSection k g d).Finite := by
  have hh : RangeHolds prototypeRange g := hg.mono (by decide) (by decide)
  have hc := rangeHolds_normalizer hh hd (1 :: k) (2 :: k) (3 :: k) (4 :: k) (0 :: k)
  obtain ⟨hdiff, -⟩ := rangeHolds_squareDifference hh (8 :: k) (0 :: k)
  exact ⟨hc.isFinite, isFinite_normalizer_fmul hc _ (by decide), hc.isFinite,
    isFinite_twice_normalizer_fmul hc _ _ hdiff,
    isFinite_normalizer_fmul hc _ (rangeHolds_undampedTerm hh hd (10 :: k) (11 :: k) (12 :: k) (0 :: k))⟩

theorem lowpassSection_finite : (lowpassSection k g d).Finite := by
  have hh : RangeHolds prototypeRange (fdiv (0 :: k) Config.one g) :=
    rangeHolds_fdiv _ _ (rangeHolds_self (c := Config.one) rfl) hg (by decide) (by decide) (by decide)
  have hc := rangeHolds_normalizer hh hd (2 :: k) (3 :: k) (4 :: k) (5 :: k) (1 :: k)
  obtain ⟨-, hdiff⟩ := rangeHolds_squareDifference hh (9 :: k) (1 :: k)
  exact ⟨hc.isFinite, isFinite_normalizer_fmul hc _ (by decide), hc.isFinite,
    isFinite_twice_normalizer_fmul hc _ _ hdiff,
    isFinite_normalizer_fmul hc _ (rangeHolds_undampedTerm hh hd (11 :: k) (12 :: k) (13 :: k) (1 :: k))⟩

end

/-! ## The peak section (R200, R201) -/

/-- The sine of a positive angle up to 3 is not negative, as pi is above 3 (40_numerics.md R105). -/
theorem rangeHolds_f_sin {x : Word} (hpos : flt 0 x = true) (hle : fle x sinePositiveTo = true) :
    RangeHolds ⟨0, Config.one⟩ (f_sin x) := by
  have hfin : isFinite x = true := isFinite_of_within (lo := 0) (hi := sinePositiveTo) rfl rfl (by
    obtain ⟨hzero, hnan, hlt⟩ := flt_iff.1 hpos
    rw [within, hle, fle_iff.2 ⟨hzero, hnan, hlt.le⟩]
    rfl)
  rw [f_sin_of_not_isZero hfin (isZero_of_pos hpos), signBit_of_pos hpos,
    fabs_of_signBit_false (signBit_of_pos hpos), if_neg Bool.false_ne_true, sinOfPositive, sineLow,
    if_pos hle]
  exact ⟨rfl, rfl, within_clampF (by decide) (by decide) _⟩

theorem rangeHolds_f_cos {x : Word} (hx : isFinite x = true) :
    RangeHolds (symmetricRange Config.one) (f_cos x) := ⟨rfl, rfl, within_f_cos hx⟩

theorem rangeHolds_f_db2lin {d : Word} (hd : within dbDomainMin dbDomainMax d = true) :
    RangeHolds ⟨linearLow, linearHigh⟩ (f_db2lin d) := ⟨rfl, rfl, within_f_db2lin hd⟩

section
variable {glin sinW cosW q : Word} (hglin : RangeHolds ⟨linearLow, linearHigh⟩ glin)
  (hsin : RangeHolds ⟨0, Config.one⟩ sinW) (hcos : RangeHolds (symmetricRange Config.one) cosW)
  (hq : RangeHolds ⟨Config.qMin, Config.qMax⟩ q) (k k₁ k₂ k₃ : Site)

include hsin hq in
/-- The bandwidth term, called alpha in the usual design, is in [0, 8]. -/
theorem rangeHolds_bandwidth :
    RangeHolds ⟨0, Config.eight⟩ (fdiv k (fmul k₁ Config.half sinW) q) := by
  have hnum : RangeHolds ⟨0, Config.half⟩ (fmul k₁ Config.half sinW) :=
    rangeHolds_fmul k₁ _ (rangeHolds_self (c := Config.half) rfl) hsin (by decide) (by decide) (by decide)
  exact rangeHolds_fdiv k _ hnum hq (by decide) (by decide) (by decide)

include hglin in
/-- The root A of the linear gain is in [2^-4, 8]. -/
theorem rangeHolds_rootGain : RangeHolds ⟨0x3D800000#32, Config.eight⟩ (fsqrt k glin) :=
  rangeHolds_fsqrt k _ hglin (by decide) (by decide) (by decide)

include hglin hsin hq

theorem rangeHolds_bandwidth_fmul : RangeHolds ⟨0, Config.sixtyFour⟩
    (fmul k (fdiv k₁ (fmul k₂ Config.half sinW) q) (fsqrt k₃ glin)) :=
  rangeHolds_fmul k _ (rangeHolds_bandwidth hsin hq k₁ k₂) (rangeHolds_rootGain hglin k₃) (by decide)
    (by decide) (by decide)

theorem rangeHolds_bandwidth_fdiv : RangeHolds ⟨0, 0x43000000#32⟩
    (fdiv k (fdiv k₁ (fmul k₂ Config.half sinW) q) (fsqrt k₃ glin)) :=
  rangeHolds_fdiv k _ (rangeHolds_bandwidth hsin hq k₁ k₂) (rangeHolds_rootGain hglin k₃) (by decide)
    (by decide) (by decide)

/-- The divisor a0 is at least 1. -/
theorem rangeHolds_peakDivisor (k₄ : Site) : RangeHolds ⟨Config.one, 0x43800000#32⟩
    (fadd k Config.one (fdiv k₁ (fdiv k₂ (fmul k₃ Config.half sinW) q) (fsqrt k₄ glin))) :=
  rangeHolds_fadd k _ (rangeHolds_self (c := Config.one) rfl)
    (rangeHolds_bandwidth_fdiv hglin hsin hq k₁ k₂ k₃ k₄) (by decide) (by decide)

include hcos

theorem peakSection_finite : (peakSection k glin sinW cosW q).Finite := by
  have hone := rangeHolds_self (c := Config.one) rfl
  have haA := rangeHolds_bandwidth_fmul hglin hsin hq (4 :: k) (1 :: k) (2 :: k) (0 :: k)
  have haoA := rangeHolds_bandwidth_fdiv hglin hsin hq (5 :: k) (1 :: k) (2 :: k) (0 :: k)
  have ha0 := rangeHolds_peakDivisor hglin hsin hq (8 :: k) (5 :: k) (1 :: k) (2 :: k) (0 :: k)
  have hquotient {u : Word} (k' : Site) (hu : RangeHolds (symmetricRange 0x43000000#32) u) :=
    (rangeHolds_fdiv_symmetric k' hu ha0).isFinite
  have hc2 : RangeHolds (symmetricRange 0x43000000#32) (fmul (3 :: k) Config.negTwo cosW) :=
    rangeHolds_fmul_symmetric _ _
      (by decide : RangeHolds (symmetricRange Config.two) Config.negTwo) hcos (by decide) (by decide)
  exact ⟨hquotient _ (rangeHolds_fadd _ _ hone haA (by decide) (by decide)), hquotient _ hc2,
    hquotient _ (rangeHolds_fadd _ _ hone (rangeHolds_fneg haA) (by decide) (by decide)),
    hquotient _ hc2,
    hquotient _ (rangeHolds_fadd _ _ hone (rangeHolds_fneg haoA) (by decide) (by decide))⟩

end

/-! ## The updater (R205) -/

/-- The sample rate is that of a session (10_state.md R26). -/
abbrev State.RateOk (s : State) : Prop := within Config.fsMin Config.fsMax s.fs = true

theorem State.Inv.rateOk {s : State} (h : s.Inv) (hp : s.prepared = true) : s.RateOk := by
  obtain ⟨hfs, -⟩ := h.session.1 hp
  exact hfs

section
variable (s : State) (k k' : Site)

/-- Section j of the low-cut cascade as the updater designs it; the cutoff is computed at the place `k'`. -/
abbrev lowCutDesign (j : Nat) : Coefs :=
  highpassSection k (warpedCutoff .reference k' (snapshot .reference s).lcf s.fs)
    (Params.reference.invq ((snapshot .reference s).lcq + 1) j)

/-- Section j of the high-cut cascade. -/
abbrev highCutDesign (j : Nat) : Coefs :=
  lowpassSection k (warpedCutoff .reference k' (snapshot .reference s).hcf s.fs)
    (Params.reference.invq ((snapshot .reference s).hcq + 1) j)

/-- The peak section; its angle is computed at the place `k'`. -/
abbrev peakDesign : Coefs :=
  peakSection k (Params.reference.db2lin (snapshot .reference s).pkg)
    (Params.reference.sin (peakOmega k' (snapshot .reference s).pkf s.fs))
    (Params.reference.cos (peakOmega k' (snapshot .reference s).pkf s.fs)) (snapshot .reference s).pkq

end

section
variable {s : State} (hfs : s.RateOk) (k k' : Site)
include hfs

theorem lowCut_finite {j : Nat} (hj : j ≤ (snapshot .reference s).lcq) :
    (lowCutDesign s k k' j).Finite := by
  obtain ⟨⟨hlcf, -⟩, -⟩ := snapshotInRange s
  exact highpassSection_finite (rangeHolds_warpedCutoff ⟨rfl, rfl, hlcf⟩ ⟨rfl, rfl, hfs⟩ k')
    (rangeHolds_invq _ (snapshot_lcq_le _ s) j hj) k

theorem highCut_finite {j : Nat} (hj : j ≤ (snapshot .reference s).hcq) :
    (highCutDesign s k k' j).Finite := by
  obtain ⟨-, -, -, -, -, ⟨hhcf, -⟩, -⟩ := snapshotInRange s
  exact lowpassSection_finite (rangeHolds_warpedCutoff ⟨rfl, rfl, hhcf⟩ ⟨rfl, rfl, hfs⟩ k')
    (rangeHolds_invq _ (snapshot_hcq_le _ s) j hj) k

/-- The sine and the cosine of the peak's angle are used where their ranges are known (R201). -/
theorem rangeHolds_peakTerms :
    RangeHolds ⟨linearLow, linearHigh⟩ (Params.reference.db2lin (snapshot .reference s).pkg) ∧
    RangeHolds ⟨0, Config.one⟩ (Params.reference.sin (peakOmega k' (snapshot .reference s).pkf s.fs)) ∧
    RangeHolds (symmetricRange Config.one)
      (Params.reference.cos (peakOmega k' (snapshot .reference s).pkf s.fs)) ∧
    RangeHolds ⟨Config.qMin, Config.qMax⟩ (snapshot .reference s).pkq := by
  obtain ⟨-, -, ⟨hpkf, -⟩, ⟨hpkg, -⟩, ⟨hpkq, -⟩, -⟩ := snapshotInRange s
  have homega : RangeHolds ⟨0x39800000#32, sinePositiveTo⟩
      (peakOmega k' (snapshot .reference s).pkf s.fs) :=
    rangeHolds_peakOmega ⟨rfl, rfl, hpkf⟩ ⟨rfl, rfl, hfs⟩ k'
  exact ⟨rangeHolds_f_db2lin hpkg, rangeHolds_f_sin (homega.pos (by decide)) homega.fle_hi,
    rangeHolds_f_cos homega.isFinite, rfl, rfl, hpkq⟩

theorem peak_finite : (peakDesign s k k').Finite := by
  obtain ⟨hglin, hsin, hcos, hq⟩ := rangeHolds_peakTerms hfs k'
  exact peakSection_finite hglin hsin hcos hq k

/-- Each slot is written with a finite design, or kept. -/
theorem coefFinite_updateProc (h : s.CoefFinite) : (updateProc .reference k s).CoefFinite := by
  intro m hm
  rw [getCoef_updateProc]
  split_ifs with hpeak hhigh hlow
  · exact peak_finite hfs _ _
  · exact highCut_finite hfs _ _ (by omega)
  · exact lowCut_finite hfs _ _ (by omega)
  · exact h m hm

end

/-! ## Every step keeps the coefficients finite -/

theorem coefFinite_congr {s t : State} (h : t.coef = s.coef) (hs : s.CoefFinite) : t.CoefFinite := by
  unfold State.CoefFinite State.getCoef
  rw [h]
  exact hs

theorem coefFinite_of_sameBinding {s t : State} (h : s.SameBinding t) (hs : s.CoefFinite) :
    t.CoefFinite := by
  obtain ⟨hcoef, -⟩ := h
  exact coefFinite_congr hcoef hs

theorem coefFinite_resetBlock (s : State) : (s.resetBlock .reference).CoefFinite := by
  obtain ⟨-, hreset⟩ := resetMeetsInvariant
  exact coefFinite_congr rfl hreset

theorem coefFinite_illegalWord {s : State} (h : s.CoefFinite) (w : CmdWord) :
    (illegalWord w s).CoefFinite := by
  unfold illegalWord
  split
  · exact coefFinite_congr rfl h
  · exact coefFinite_congr rfl h

section
variable {s : State} (hinv : s.Inv) (h : s.CoefFinite)
include hinv h

/-- What a command does when its checks hold: only `RESET` and the three commands that run the updater write
a coefficient. -/
theorem coefFinite_commandEffect (i : Instr)
    (hchecks : firstFault (commandChecks .reference i s) = none) :
    (commandEffect .reference i s).CoefFinite := by
  cases i with
  | reset => exact coefFinite_resetBlock s
  | prepare nch maxblk fs =>
    obtain ⟨hargs, -⟩ := (firstFault_cons_eq_none _ _ _).1 hchecks
    obtain ⟨-, -, hfs⟩ := (prepareArgsOk_reference_iff nch maxblk fs).1 hargs
    have hopened : (openSession nch maxblk fs s.draw).RateOk := hfs
    exact coefFinite_congr (settleMix_coef _)
      (coefFinite_updateProc hopened _ (coefFinite_congr rfl h))
  | update =>
    obtain ⟨hp, -⟩ := (firstFault_cons_eq_none _ _ _).1 hchecks
    exact coefFinite_updateProc (s := s.draw) (hinv.rateOk hp) _ (coefFinite_congr rfl h)
  | process n =>
    obtain ⟨hp, -⟩ := (firstFault_cons_eq_none _ _ _).1 hchecks
    exact coefFinite_of_sameBinding (commandEffect_process_sameBinding n s)
      (coefFinite_updateProc (s := s.draw) (hinv.rateOk hp) _ (coefFinite_congr rfl h))
  | nop | setp | getp | tcdirty | rdcoef | rdsr | put | get => exact coefFinite_congr rfl h

theorem coefFinite_run (i : Instr) : (run .reference i s).CoefFinite :=
  run_keeps (p := State.CoefFinite) (fun _ _ hu => coefFinite_congr rfl hu)
    (fun _ _ _ hu => coefFinite_congr rfl hu) h (coefFinite_commandEffect hinv h i)

theorem coefFinite_stepIn : (stepIn .reference s).CoefFinite := by
  unfold stepIn
  split
  · exact h
  · exact coefFinite_resetBlock _
  · have htaken (rest : List HostInput) : (s.withInp rest).CoefFinite := coefFinite_congr rfl h
    split
    · exact coefFinite_run (inv_withInp hinv _) (htaken _) _
    · exact coefFinite_illegalWord (htaken _) _

end

/-- Settles O58: the four kinds of step; the updater's designs are finite at every sample rate of a session. -/
theorem stepKeepsCoefficientsFinite : Obligations.StepKeepsCoefficientsFinite := by
  unfold Obligations.StepKeepsCoefficientsFinite
  intro s t hinv h hstep
  rw [step_eq_stepIn] at hstep
  cases hstep
  exact coefFinite_stepIn hinv h

end Sys2Proof.Machine
end

section
/-! PROOF. Two updates in a row (45_coefficient_update.md R206): the place of an operation chooses only the bits
of a NaN (40_numerics.md R98) and no term of the designs is a NaN, so the updater binds the same at every
place; and it reads nothing of what it writes but the slots and bits that it keeps. -/

namespace Sys2Proof.Machine

/-! ## Sections up to the bits of a NaN (R98) -/

theorem sameNumber_fsqrt_place (k k' : Site) (a : Word) : SameNumber (fsqrt k a) (fsqrt k' a) := by
  simp only [fsqrt]
  split_ifs <;> simp [SameNumber, isNaN_freeNaN]

/-- The same section, but for the bits of a NaN. -/
structure Coefs.SameNumbers (c c' : Coefs) : Prop where
  b0 : SameNumber c.b0 c'.b0
  b1 : SameNumber c.b1 c'.b1
  b2 : SameNumber c.b2 c'.b2
  a1 : SameNumber c.a1 c'.a1
  a2 : SameNumber c.a2 c'.a2

theorem Coefs.SameNumbers.eq_of_finite {c c' : Coefs} (h : c.SameNumbers c') (hc : c.Finite) : c = c' := by
  obtain ⟨hb0, hb1, hb2, ha1, ha2⟩ := hc
  cases c
  cases c'
  exact (Coefs.mk.injEq ..).mpr ⟨h.b0.eq_of_isFinite hb0, h.b1.eq_of_isFinite hb1,
    h.b2.eq_of_isFinite hb2, h.a1.eq_of_isFinite ha1, h.a2.eq_of_isFinite ha2⟩

section
variable (k k' : Site)

theorem highpassSection_place (g d : Word) :
    (highpassSection k g d).SameNumbers (highpassSection k' g d) := by
  have hone := SameNumber.refl Config.one
  have hsquare := sameNumber_fmul_place (0 :: k) (0 :: k') g g
  have hdamping (j : Nat) := sameNumber_fmul_place (j :: k) (j :: k') d g
  have hc1 := sameNumber_fdiv (1 :: k) (1 :: k') hone (sameNumber_fadd (2 :: k) (2 :: k')
    (sameNumber_fadd (3 :: k) (3 :: k') hone (hdamping 4)) hsquare)
  exact
    { b0 := hc1
      b1 := sameNumber_fmul _ _ hc1 (.refl _)
      b2 := hc1
      a1 := sameNumber_fmul _ _ (sameNumber_fmul _ _ hc1 (.refl _)) (sameNumber_fsub _ _ hsquare hone)
      a2 := sameNumber_fmul _ _ hc1
        (sameNumber_fadd _ _ (sameNumber_fsub _ _ hone (hdamping 12)) hsquare) }

theorem lowpassSection_place (g d : Word) :
    (lowpassSection k g d).SameNumbers (lowpassSection k' g d) := by
  have hone := SameNumber.refl Config.one
  have hn := sameNumber_fdiv_place (0 :: k) (0 :: k') Config.one g
  have hsquare := sameNumber_fmul (1 :: k) (1 :: k') hn hn
  have hdamping (j : Nat) := sameNumber_fmul (j :: k) (j :: k') (.refl d) hn
  have hc1 := sameNumber_fdiv (2 :: k) (2 :: k') hone (sameNumber_fadd (3 :: k) (3 :: k')
    (sameNumber_fadd (4 :: k) (4 :: k') hone (hdamping 5)) hsquare)
  exact
    { b0 := hc1
      b1 := sameNumber_fmul _ _ hc1 (.refl _)
      b2 := hc1
      a1 := sameNumber_fmul _ _ (sameNumber_fmul _ _ hc1 (.refl _)) (sameNumber_fsub _ _ hone hsquare)
      a2 := sameNumber_fmul _ _ hc1
        (sameNumber_fadd _ _ (sameNumber_fsub _ _ hone (hdamping 13)) hsquare) }

theorem peakSection_place (glin sinW cosW q : Word) :
    (peakSection k glin sinW cosW q).SameNumbers (peakSection k' glin sinW cosW q) := by
  have hone := SameNumber.refl Config.one
  have hroot := sameNumber_fsqrt_place (0 :: k) (0 :: k') glin
  have hbandwidth := sameNumber_fdiv (1 :: k) (1 :: k')
    (sameNumber_fmul_place (2 :: k) (2 :: k') Config.half sinW) (.refl q)
  have hc2 := sameNumber_fmul_place (3 :: k) (3 :: k') Config.negTwo cosW
  have haA := sameNumber_fmul (4 :: k) (4 :: k') hbandwidth hroot
  have haoA := sameNumber_fdiv (5 :: k) (5 :: k') hbandwidth hroot
  have ha0 := sameNumber_fadd (8 :: k) (8 :: k') hone haoA
  exact
    { b0 := sameNumber_fdiv _ _ (sameNumber_fadd _ _ hone haA) ha0
      b1 := sameNumber_fdiv _ _ hc2 ha0
      b2 := sameNumber_fdiv _ _ (sameNumber_fsub _ _ hone haA) ha0
      a1 := sameNumber_fdiv _ _ hc2 ha0
      a2 := sameNumber_fdiv _ _ (sameNumber_fsub _ _ hone haoA) ha0 }

end

/-! ## The operands of the designs -/

section
variable {fc fs : Word} (hfc : RangeHolds ⟨Config.freqMin, Config.freqMax⟩ fc)
  (hfs : RangeHolds ⟨Config.fsMin, Config.fsMax⟩ fs) (k k' : Site)
include hfc hfs

theorem warpedCutoff_place : warpedCutoff .reference k fc fs = warpedCutoff .reference k' fc fs := by
  have hangle := sameNumber_fmul (0 :: k) (0 :: k') (.refl Config.pi32)
    (sameNumber_fdiv_place (1 :: k) (1 :: k') fc fs)
  have hfin := (rangeHolds_cutoffAngle hfc hfs (0 :: k) (1 :: k)).isFinite
  exact congrArg f_tan (hangle.eq_of_isFinite hfin)

theorem peakOmega_place : peakOmega k fc fs = peakOmega k' fc fs := by
  have homega := sameNumber_fdiv (0 :: k) (0 :: k')
    (sameNumber_fmul_place (1 :: k) (1 :: k') Config.twoPi32 fc) (.refl fs)
  exact homega.eq_of_isFinite (rangeHolds_peakOmega hfc hfs k).isFinite

end

/-! ## The updater at two places -/

theorem snapshot_congr (P : Params) {s t : State} (h : t.par = s.par) : snapshot P t = snapshot P s := by
  unfold snapshot State.getPar
  rw [h]

/-- The bound scalars are those of the parameters (R204). -/
theorem updateProc_scalars_congr (P : Params) (k k' : Site) {s t : State} (h : t.par = s.par) :
    (updateProc P k t).preg = (updateProc P k' s).preg ∧
      (updateProc P k t).biasr = (updateProc P k' s).biasr ∧
      (updateProc P k t).amtr = (updateProc P k' s).amtr ∧
      (updateProc P k t).kindr = (updateProc P k' s).kindr ∧
      (updateProc P k t).postg = (updateProc P k' s).postg ∧
      (updateProc P k t).mixt = (updateProc P k' s).mixt := by
  simp only [updateProc, bindScalars, snapshot_congr P h, and_self]

theorem coef_eq_of_getCoef_eq {s t : State} (h : ∀ n < 9, t.getCoef n = s.getCoef n) : t.coef = s.coef := by
  refine Vector.ext fun n hn => ?_
  have hslot := h n hn
  rwa [State.getCoef, State.getCoef, Vector.getElem?_eq_getElem hn, Vector.getElem?_eq_getElem hn,
    Option.getD_some, Option.getD_some] at hslot

theorem act_eq_of_getAct_eq {s t : State} (h : ∀ n < 9, t.getAct n = s.getAct n) : t.act = s.act := by
  refine Vector.ext fun n hn => ?_
  have hbit := h n hn
  rwa [State.getAct, State.getAct, Vector.getElem?_eq_getElem hn, Vector.getElem?_eq_getElem hn,
    Option.getD_some, Option.getD_some] at hbit

section
variable {s : State} (hfs : s.RateOk) (k k' k₁ k₁' : Site)
include hfs

theorem lowCut_place {j : Nat} (hj : j ≤ (snapshot .reference s).lcq) :
    lowCutDesign s k k₁ j = lowCutDesign s k' k₁' j := by
  obtain ⟨⟨hlcf, -⟩, -⟩ := snapshotInRange s
  unfold lowCutDesign
  rw [warpedCutoff_place ⟨rfl, rfl, hlcf⟩ ⟨rfl, rfl, hfs⟩ k₁' k₁]
  exact (highpassSection_place k k' _ _).eq_of_finite (lowCut_finite hfs k k₁ hj)

theorem highCut_place {j : Nat} (hj : j ≤ (snapshot .reference s).hcq) :
    highCutDesign s k k₁ j = highCutDesign s k' k₁' j := by
  obtain ⟨-, -, -, -, -, ⟨hhcf, -⟩, -⟩ := snapshotInRange s
  unfold highCutDesign
  rw [warpedCutoff_place ⟨rfl, rfl, hhcf⟩ ⟨rfl, rfl, hfs⟩ k₁' k₁]
  exact (lowpassSection_place k k' _ _).eq_of_finite (highCut_finite hfs k k₁ hj)

theorem peak_place : peakDesign s k k₁ = peakDesign s k' k₁' := by
  obtain ⟨-, -, ⟨hpkf, -⟩, -⟩ := snapshotInRange s
  unfold peakDesign
  rw [peakOmega_place ⟨rfl, rfl, hpkf⟩ ⟨rfl, rfl, hfs⟩ k₁' k₁]
  exact (peakSection_place k k' _ _ _ _).eq_of_finite (peak_finite hfs k k₁)

/-- The place of the updater chooses nothing that it writes to a slot. -/
theorem getCoef_updateProc_place (m : Nat) :
    (updateProc .reference k s).getCoef m = (updateProc .reference k' s).getCoef m := by
  rw [getCoef_updateProc, getCoef_updateProc]
  split_ifs with hpeak hhigh hlow
  · exact peak_place hfs _ _ _ _
  · exact highCut_place hfs _ _ _ _ (by omega)
  · exact lowCut_place hfs _ _ _ _ (by omega)
  · rfl

theorem updateProc_sameBinding_place :
    (updateProc .reference k s).SameBinding (updateProc .reference k' s) := by
  refine ⟨coef_eq_of_getCoef_eq fun m _ => getCoef_updateProc_place hfs k' k m,
    act_eq_of_getAct_eq fun m _ => ?_, updateProc_scalars_congr _ _ _ rfl⟩
  rw [getAct_updateProc, getAct_updateProc]

end

/-! ## The updater on what it has bound -/

section
variable (P : Params) (k : Site) {s t : State} (hpar : t.par = s.par) (hfs : t.fs = s.fs)
  (hbound : (updateProc P k s).SameBinding t)
include hpar hbound

include hfs in
/-- A slot that the updater keeps on the bound state holds what it kept before. -/
theorem getCoef_updateProc_again (m : Nat) :
    (updateProc P k t).getCoef m = (updateProc P k s).getCoef m := by
  obtain ⟨hcoef, -⟩ := hbound
  have hkept : t.getCoef m = (updateProc P k s).getCoef m := by rw [State.getCoef, hcoef]; rfl
  have hslot := getCoef_updateProc P k s m
  rw [getCoef_updateProc, snapshot_congr P hpar, hfs, hkept]
  split_ifs at hslot ⊢ with hpeak hhigh hlow
  · exact hslot.symm
  · exact hslot.symm
  · exact hslot.symm
  · rfl

theorem getAct_updateProc_again (m : Nat) : (updateProc P k t).getAct m = (updateProc P k s).getAct m := by
  obtain ⟨-, hact, -⟩ := hbound
  have hkept : t.getAct m = (updateProc P k s).getAct m := by rw [State.getAct, hact]; rfl
  have hbit := getAct_updateProc P k s m
  rw [getAct_updateProc, snapshot_congr P hpar, hkept]
  split_ifs at hbit ⊢ with hhigh hlow
  · exact hbit.symm
  · exact hbit.symm
  · rfl

include hfs in
theorem updateProc_sameBinding_again : (updateProc P k s).SameBinding (updateProc P k t) :=
  ⟨coef_eq_of_getCoef_eq fun m _ => getCoef_updateProc_again P k hpar hfs hbound m,
    act_eq_of_getAct_eq fun m _ => getAct_updateProc_again P k hpar hbound m,
    updateProc_scalars_congr P k k hpar⟩

end

theorem State.SameBinding.trans {s t u : State} (h : s.SameBinding t) (h' : t.SameBinding u) :
    s.SameBinding u := by
  obtain ⟨hcoef, hact, hpreg, hbiasr, hamtr, hkindr, hpostg, hmixt⟩ := h
  obtain ⟨hcoef', hact', hpreg', hbiasr', hamtr', hkindr', hpostg', hmixt'⟩ := h'
  exact ⟨hcoef'.trans hcoef, hact'.trans hact, hpreg'.trans hpreg, hbiasr'.trans hbiasr,
    hamtr'.trans hamtr, hkindr'.trans hkindr, hpostg'.trans hpostg, hmixt'.trans hmixt⟩

theorem respond_sameBinding {s t : State} (h : s.SameBinding t) (r r' : Response) :
    (s.respond r).SameBinding (t.respond r') := h

/-- Settles O32: the second `UPDATE` runs at another place, and on what the first has bound. -/
theorem updateIsIdempotent : Obligations.UpdateIsIdempotent := by
  unfold Obligations.UpdateIsIdempotent
  intro s t u hinv hs ht hu
  obtain ⟨hfault, hprepared⟩ := hs
  have hpar := updateProc_par .reference s.site s.draw
  have hfs := updateProc_fs .reference s.site s.draw
  have hfault' := (updateProc_fault .reference s.site s.draw).trans hfault
  have hprepared' := (updateProc_prepared .reference s.site s.draw).trans hprepared
  have hagain (t' : State) := updateProc_sameBinding_again .reference s.site (s := s.draw) (t := t')
  rw [exec_update ⟨hfault, hprepared⟩] at ht
  generalize updateProc .reference s.site s.draw = bound at *
  cases ht
  rw [exec_update (s := bound.respond (.ok 0)) ⟨hfault', hprepared'⟩] at hu
  cases hu
  have hrate : (bound.respond (.ok 0)).draw.RateOk :=
    (congrArg (within Config.fsMin Config.fsMax ·) hfs).trans (hinv.rateOk hprepared)
  have hplace := updateProc_sameBinding_place hrate s.site (bound.respond (.ok 0)).site
  have hagain' := hagain (bound.respond (.ok 0)).draw hpar hfs ⟨rfl, rfl, rfl, rfl, rfl, rfl, rfl, rfl⟩
  exact respond_sameBinding (hagain'.trans hplace) _ _

end Sys2Proof.Machine
end

section
/-! PROOF. The peak filter at 0 dB (45_coefficient_update.md R203): its numerator and its denominator are the
same terms, and a section with such coefficients passes a finite sample unchanged from a cleared state. -/

namespace Sys2Proof.Machine

/-! ## The design at 0 dB (R200) -/

theorem signBit_eq_decide {a : Word} (h : isZero a = false) : signBit a = decide (value a < 0) := by
  have hpos : 0 < mag a := Nat.pos_of_ne_zero (by simpa [isZero] using h)
  cases hsign : signBit a <;> simp [value, hsign, hpos]

/-- A finite value other than zero is that of one word. -/
theorem eq_of_value_eq {a b : Word} (ha : isFinite a = true) (hb : isFinite b = true)
    (hzero : isZero b = false) (h : value a = value b) : a = b := by
  have hmag : mag a = mag b := by rw [← natAbs_value, h, natAbs_value]
  have hzero' : isZero a = false := by rwa [isZero, hmag]
  refine eq_of_signBit_of_mag ha hb ?_ hmag
  rw [signBit_eq_decide hzero', h, signBit_eq_decide hzero]

theorem fsqrt_one (k : Site) : fsqrt k Config.one = Config.one := by
  have hvalue : value Config.one = 2 ^ 149 := by decide
  have hroot : Real.sqrt ((value Config.one : ℝ) * 2 ^ 149) = value Config.one := by
    rw [hvalue, Int.cast_pow, Int.cast_ofNat, Real.sqrt_mul_self (by positivity)]
  have hround := correctlyRounded_fsqrt k (a := Config.one) rfl (by decide)
  obtain ⟨hfin, hval⟩ := hround.eq_value (c := Config.one) rfl hroot
  exact eq_of_value_eq hfin rfl rfl hval

/-- With a linear gain of 1.0 both bandwidth terms are the same, so b0 is a0 and b2 is a2 before they are
divided by a0 (R202). -/
theorem peakSection_flat (k : Site) {sinW cosW q : Word} (hsin : RangeHolds ⟨0, Config.one⟩ sinW)
    (hcos : RangeHolds (symmetricRange Config.one) cosW) (hq : RangeHolds ⟨Config.qMin, Config.qMax⟩ q) :
    (peakSection k Config.one sinW cosW q).b0 = Config.one ∧
      (peakSection k Config.one sinW cosW q).b1 = (peakSection k Config.one sinW cosW q).a1 ∧
      (peakSection k Config.one sinW cosW q).b2 = (peakSection k Config.one sinW cosW q).a2 := by
  have hglin : RangeHolds ⟨linearLow, linearHigh⟩ Config.one := by decide
  obtain ⟨-, -, hb2, -⟩ := peakSection_finite hglin hsin hcos hq k
  have ha0 := rangeHolds_peakDivisor hglin hsin hq (8 :: k) (5 :: k) (1 :: k) (2 :: k) (0 :: k)
  have hal := (rangeHolds_bandwidth hsin hq (1 :: k) (2 :: k)).isFinite
  simp only [peakSection, fsqrt_one] at ha0 hb2 ⊢
  generalize fdiv (1 :: k) (fmul (2 :: k) Config.half sinW) q = al at *
  have haA : fmul (4 :: k) al Config.one = al := fmul_one _ (isNaN_of_isFinite hal)
  have haoA : fdiv (5 :: k) al Config.one = al := fdiv_one _ hal
  rw [haA] at hb2 ⊢
  rw [haoA] at ha0 hb2 ⊢
  refine ⟨?_, trivial, ?_⟩
  · rw [← (sameNumber_fadd_place (8 :: k) (6 :: k) Config.one al).eq_of_isFinite ha0.isFinite]
    exact fdiv_self _ ha0.isFinite (isZero_of_pos (ha0.pos (by decide)))
  · have hterm := sameNumber_fadd_place (7 :: k) (9 :: k) Config.one (fneg al)
    exact (sameNumber_fdiv (12 :: k) (13 :: k) hterm (.refl _)).eq_of_isFinite hb2

theorem isZero_snapshot_pkg {s : State} (h : isZero (s.getPar 3) = true) :
    isZero (snapshot .reference s).pkg = true := by
  obtain ⟨-, -, -, ⟨-, hkept, -⟩, -⟩ := snapshotInRange s
  have hin : within Config.pkgainMin Config.pkgainMax (s.getPar 3) = true := by
    rw [within_iff_value, (value_eq_zero_iff _).2 h]
    exact ⟨rfl, rfl, isNaN_of_isZero h, by decide, by decide⟩
  rwa [hkept hin]

/-- Settles O33: at either zero `f_db2lin` is 1.0. -/
theorem flatPeakCoefficients : Obligations.FlatPeakCoefficients := by
  unfold Obligations.FlatPeakCoefficients
  intro s t hinv hs hzero ht
  rw [exec_update hs] at ht
  cases ht
  have hfs : s.draw.RateOk := hinv.rateOk hs.2
  have hgain : isZero (snapshot .reference s.draw).pkg = true := isZero_snapshot_pkg hzero
  obtain ⟨k, k', hpeak⟩ := (updateProc_boundFrom s.site s.draw).peak
  obtain ⟨-, hsin, hcos, hq⟩ := rangeHolds_peakTerms hfs k'
  have hflat := peakSection_flat k hsin hcos hq
  rw [Params.reference_db2lin, f_db2lin_of_isZero hgain] at hpeak
  rw [← hpeak] at hflat
  exact hflat

/-! ## A flat section (R143) -/

/-- The difference of two finite products of equal factors is +0.0, whatever their places. -/
theorem fsub_fmul_self (k k₁ k₂ : Site) {a b : Word} (h : isFinite (fmul k₁ a b) = true) :
    fsub k (fmul k₁ a b) (fmul k₂ a b) = 0 := by
  rw [← (sameNumber_fmul_place k₁ k₂ a b).eq_of_isFinite h]
  exact fsub_self k h

/-- Settles O34: the output is the sample, and both delay values are sums of +0.0 and of differences of equal
products. -/
theorem flatSectionIsIdentity : Obligations.FlatSectionIsIdentity := by
  unfold Obligations.FlatSectionIsIdentity
  intro k c x hb0 hb1 hb2 hx hne hprod1 hprod2
  have hnan := isNaN_of_isFinite hx
  have hy : fadd (0 :: k) (fmul (1 :: k) c.b0 x) 0 = x := by
    rw [hb0, one_fmul _ hnan, fadd_zero _ hnan hne]
  simp only [biquad, hy, hb1, hb2]
  rw [fsub_fmul_self _ _ _ (hprod1 _), fsub_fmul_self _ _ _ (hprod2 _), fadd_zero _ rfl (by decide)]

end Sys2Proof.Machine
end

section
/-! PROOF. Faults (60_exceptions.md): a command that faults has failed one of its checks and has done nothing but
enter the fault; while `FAULT = 1` every word but those of `RESET` and of a legal `RDSR` is refused. -/

namespace Sys2Proof.Machine

/-! ## Fault entry (R226) -/

/-- Settles O12: the four causes have the codes of R221. -/
theorem faultEntryExact : Obligations.FaultEntryExact := by
  unfold Obligations.FaultEntryExact
  intro s c w
  cases c <;> rfl

theorem eq_unprepared_of_code {c : Cause} (h : c.code = 2) : c = .unprepared := by
  cases c with
  | unprepared => rfl
  | illegal | prepare | index => exact absurd h (by decide)

/-! ## A command that faults has failed a check (R227) -/

/-- The cause that the checks report is that of a check that fails. -/
theorem mem_of_firstFault_eq_some {checks : List (Bool × Cause)} {c : Cause}
    (h : firstFault checks = some c) : (false, c) ∈ checks := by
  induction checks with
  | nil => exact absurd h (by simp)
  | cons check checks ih =>
    obtain ⟨holds, cause⟩ := check
    cases holds with
    | true => exact List.mem_cons_of_mem _ (ih h)
    | false =>
      cases h
      exact List.mem_cons_self

section
variable {i : Instr} {s : State} {c : Cause}

theorem commandEffect_fault (P : Params) (i : Instr) (hs : s.Ready) :
    (commandEffect P i s).fault = false := by
  cases i with
  | reset => rfl
  | _ => simpa [commandEffect] using hs

/-- A command that the block may execute raises the fault of its first failed check. -/
theorem exec_raises (hs : s.Ready) (hchecks : firstFault (commandChecks .reference i s) = some c) :
    exec i s = .next (s.raise c (encode i)) := by
  rw [exec_eq_run]
  obtain ⟨hfault, -⟩ | ⟨c', -, hc', hrun⟩ | ⟨hnone, -⟩ := run_cases .reference i s
  · exact absurd hfault (by simp [hs])
  · cases hchecks.symm.trans hc'
    rw [hrun]
  · cases hchecks.symm.trans hnone

/-- A command that leaves `FAULT` set where it was clear has raised the fault of a failed check. -/
theorem raised_of_fault {t : State} (hs : s.Ready) (hexec : exec i s = .next t) (ht : t.fault = true) :
    ∃ c, (false, c) ∈ commandChecks .reference i s ∧ t = s.raise c (encode i) := by
  rw [exec_eq_run] at hexec
  cases hexec
  obtain ⟨hfault, -⟩ | ⟨c, -, hc, hrun⟩ | ⟨-, v, hrun⟩ := run_cases .reference i s
  · exact absurd hfault (by simp [hs])
  · exact ⟨c, mem_of_firstFault_eq_some hc, hrun⟩
  · rw [hrun] at ht
    exact absurd ht (by simp [commandEffect_fault .reference i hs])

/-- The commands that need a session, and that they have none, when the check for it fails. -/
theorem unprepared_mem_commandChecks {P : Params} (h : (false, .unprepared) ∈ commandChecks P i s) :
    s.prepared = false ∧
      (i = .update ∨ (∃ c n x, i = .put c n x) ∨ (∃ n, i = .process n) ∨ ∃ c n, i = .get c n) := by
  cases i with
  | update | put | process | get => simpa [commandChecks] using h
  | _ => simp [commandChecks] at h

end

/-- Settles O13: the command has raised a fault, whose code is that of one of the four causes. -/
theorem faultsArePrecise : Obligations.FaultsArePrecise := by
  unfold Obligations.FaultsArePrecise
  intro i s t hs hexec ht
  obtain ⟨c, -, rfl⟩ := raised_of_fault hs hexec ht
  obtain ⟨hle, hne⟩ := cause_code_range c
  exact ⟨rfl, Nat.pos_of_ne_zero fun hzero => hne (BitVec.eq_of_toNat_eq hzero), hle⟩

/-! ## The checks that fail (R223 to R225, R229) -/

section
variable {s : State}

theorem firstFault_without_session (hp : s.prepared = false) (checks : List (Bool × Cause)) :
    firstFault ((s.prepared, .unprepared) :: checks) = some .unprepared := by rw [hp]; rfl

/-- In a session it is the index check that decides. -/
theorem firstFault_in_session (hp : s.prepared = true) {holds : Bool} (hindex : holds = false) :
    firstFault [(s.prepared, .unprepared), (holds, .index)] = some .index := by rw [hp, hindex]; rfl

theorem firstFault_single {holds : Bool} (h : holds = false) (c : Cause) :
    firstFault [(holds, c)] = some c := by rw [h]; rfl

theorem parIndexOk_reference_of_gt {p : Nat} (hp : p > 12) : parIndexOk .reference p = false :=
  decide_eq_false (Nat.not_lt.2 hp)

theorem srIndexOk_of_gt {r : Nat} (hr : r > 12) : srIndexOk r = false := decide_eq_false (Nat.not_lt.2 hr)

theorem coefIndexOk_reference_of_gt {n k : Nat} (h : n > 8 ∨ k > 4) : coefIndexOk .reference n k = false :=
  Bool.and_eq_false_iff.2 (h.imp (decide_eq_false <| Nat.not_lt.2 ·) (decide_eq_false <| Nat.not_lt.2 ·))

theorem sampleIndexOk_of_ge {c i : Nat} (h : c ≥ s.nch.toNat ∨ i ≥ s.maxblk.toNat) :
    sampleIndexOk c i s = false :=
  Bool.and_eq_false_iff.2 (h.imp (decide_eq_false <| Nat.not_lt.2 ·) (decide_eq_false <| Nat.not_lt.2 ·))

theorem lengthOk_of_gt {n : Nat} (h : n > s.maxblk.toNat) : lengthOk n s = false :=
  decide_eq_false (Nat.not_le.2 h)

theorem prepareArgsOk_reference_eq_false {nch maxblk : Nat} {fs : Word}
    (h : (nch ≠ 1 ∧ nch ≠ 2) ∨ maxblk = 0 ∨ maxblk > 4096 ∨ isNaN fs = true ∨
      flt fs 0x472C4400#32 = true ∨ fgt fs 0x483B8000#32 = true) :
    prepareArgsOk .reference nch maxblk fs = false := by
  refine Bool.eq_false_of_not_eq_true fun hargs => ?_
  obtain ⟨hnch, ⟨hpos, hcap⟩, hwithin⟩ := (prepareArgsOk_reference_iff nch maxblk fs).1 hargs
  obtain ⟨hnan, hbelow, habove⟩ := (within_iff (by decide) (by decide) fs).1 hwithin
  obtain h | h | h | h | h | h := h
  · omega
  · omega
  · omega
  · exact Bool.false_ne_true (hnan.symm.trans h)
  · exact Bool.false_ne_true (hbelow.symm.trans h)
  · exact Bool.false_ne_true (habove.symm.trans h)

/-- Without a session the four commands that need one raise `E_UNPREPARED`, whatever their indices. -/
theorem exec_without_session (hs : s.Ready) (hp : s.prepared = false) :
    exec .update s = .next (s.raise .unprepared (encode .update)) ∧
    (∀ c i x, exec (.put c i x) s = .next (s.raise .unprepared (encode (.put c i x)))) ∧
    (∀ n, exec (.process n) s = .next (s.raise .unprepared (encode (.process n)))) ∧
    ∀ c i, exec (.get c i) s = .next (s.raise .unprepared (encode (.get c i))) :=
  ⟨exec_raises hs (firstFault_without_session hp _),
    fun _ _ _ => exec_raises hs (firstFault_without_session hp _),
    fun _ => exec_raises hs (firstFault_without_session hp _),
    fun _ _ => exec_raises hs (firstFault_without_session hp _)⟩

end

/-- Settles O14: conversely a cause with the code of `E_UNPREPARED` is that of a failed session check. -/
theorem unpreparedFault : Obligations.UnpreparedFault := by
  unfold Obligations.UnpreparedFault
  intro s hs
  refine ⟨exec_without_session hs, fun i t hexec ht hcause => ?_⟩
  obtain ⟨c, hmem, rfl⟩ := raised_of_fault hs hexec ht
  obtain rfl : c = .unprepared := eq_unprepared_of_code hcause
  exact unprepared_mem_commandChecks hmem

/-- Settles O15: each index out of range fails its check, which is the first to fail. -/
theorem indexFault : Obligations.IndexFault := by
  unfold Obligations.IndexFault
  intro s hs
  refine ⟨fun p v hp => ?_, fun p hp => ?_, fun r hr => ?_, fun n k hnk => ?_,
    fun hp => ⟨fun c i x hci => ?_, fun c i hci => ?_, fun n hn => ?_⟩, fun hp c i x n => ?_⟩
  · exact exec_raises hs (firstFault_single (parIndexOk_reference_of_gt hp) _)
  · exact exec_raises hs (firstFault_single (parIndexOk_reference_of_gt hp) _)
  · exact exec_raises hs (firstFault_single (srIndexOk_of_gt hr) _)
  · exact exec_raises hs (firstFault_single (coefIndexOk_reference_of_gt hnk) _)
  · exact exec_raises hs (firstFault_in_session hp (sampleIndexOk_of_ge hci))
  · exact exec_raises hs (firstFault_in_session hp (sampleIndexOk_of_ge hci))
  · exact exec_raises hs (firstFault_in_session hp (lengthOk_of_gt hn))
  · obtain ⟨-, hput, hprocess, hget⟩ := exec_without_session hs hp
    exact ⟨hput c i x, hget c i, hprocess n⟩

/-- Settles O16: each illegal argument fails the one check of `PREPARE`. -/
theorem prepareFault : Obligations.PrepareFault := by
  unfold Obligations.PrepareFault
  intro s nch maxblk fs hs hargs
  exact exec_raises hs (firstFault_single (prepareArgsOk_reference_eq_false hargs) _)

/-! ## The step on a presented word (R222, R239) -/

theorem illegalWord_ready (w : CmdWord) {s : State} (hs : s.Ready) :
    illegalWord w s = s.raise .illegal w := by
  simp [illegalWord, hs]

theorem illegalWord_faulted (w : CmdWord) {s : State} (hs : s.fault = true) :
    illegalWord w s = s.refuse := by
  simp [illegalWord, hs]

section
variable {s : State} {w : CmdWord} {rest : List HostInput}

theorem step_idle (hinp : s.inp = []) : step s = .next s := by simp only [step, hinp]

theorem step_of_decode_error {r : Reject} (hinp : s.inp = .command w :: rest)
    (hdecode : decode w = .error r) : step s = .next (illegalWord w (s.withInp rest)) := by
  rw [step_eq_stepIn, stepIn_of_decode_error .reference hinp hdecode]

theorem step_of_decode_ok {i : Instr} (hinp : s.inp = .command w :: rest) (hdecode : decode w = .ok i) :
    step s = exec i (s.withInp rest) :=
  (stepRunsDecodedCommand s w rest i hinp hdecode).2

end

/-- Settles O7: the word is taken off the port, and then `FAULT` decides. -/
theorem stepOnIllegalWord : Obligations.StepOnIllegalWord := by
  unfold Obligations.StepOnIllegalWord
  intro s w rest r hinp hdecode
  rw [step_of_decode_error hinp hdecode]
  constructor
  · intro hs
    rw [illegalWord_ready w (s := s.withInp rest) hs]
    rfl
  · intro hs
    rw [illegalWord_faulted w (s := s.withInp rest) hs]
    rfl

/-! ## While `FAULT = 1` (R228, R232) -/

theorem encode_rdsr : ∀ r ≤ 12, encode (.rdsr r) = BitVec.ofNat 64 (0x14 * 2 ^ 56 + r * 2 ^ 48) := by decide

theorem decode_rdsr {r : Nat} (hr : r ≤ 12) :
    decode (BitVec.ofNat 64 (0x14 * 2 ^ 56 + r * 2 ^ 48)) = .ok (.rdsr r) :=
  decode_eq_ok_iff.2 ⟨decide_eq_true (by omega), encode_rdsr r hr⟩

/-- While `FAULT = 1` every command but `RESET` and an `RDSR` of a register that exists is refused. -/
theorem exec_faulted {i : Instr} {s : State} (hs : s.fault = true) (hreset : i ≠ .reset)
    (hrdsr : ∀ r ≤ 12, i ≠ .rdsr r) : exec i s = .next s.refuse := by
  cases i with
  | reset => exact absurd rfl hreset
  | rdsr r =>
    have hr : ¬ r ≤ 12 := fun hr => hrdsr r hr rfl
    have hrun : runRdsr .reference r s = runCommand (.rdsr r) [(false, .index)] s 0 s :=
      if_neg (by simp [srIndexOk_of_gt (Nat.not_le.1 hr)])
    exact congrArg _ (hrun.trans (runCommand_faulted _ _ _ _ _ hs))
  | _ => exact congrArg _ (runCommand_faulted _ _ _ _ _ hs)

section
variable {s : State} {w : CmdWord} {rest : List HostInput}

/-- A legal `RDSR` does not look at `FAULT`, and no system register shows the input port. -/
theorem step_rdsr {r : Nat} (hr : r ≤ 12)
    (hinp : s.inp = .command (BitVec.ofNat 64 (0x14 * 2 ^ 56 + r * 2 ^ 48)) :: rest) :
    step s = .next ((s.withInp rest).respond (.ok (sysReg .reference r s))) := by
  rw [step_of_decode_ok hinp (decode_rdsr hr), exec_rdsr _ hr]
  rfl

/-- Any word that is not one of the fourteen, whether it decodes or not, is refused while `FAULT = 1`. -/
theorem step_refuses (hs : s.fault = true) (hinp : s.inp = .command w :: rest)
    (hreset : w ≠ 0x0100000000000000#64)
    (hrdsr : ∀ r ≤ 12, w ≠ BitVec.ofNat 64 (0x14 * 2 ^ 56 + r * 2 ^ 48)) :
    step s = .next (s.withInp rest).refuse := by
  cases hdecode : decode w with
  | error r => rw [step_of_decode_error hinp hdecode, illegalWord_faulted w (s := s.withInp rest) hs]
  | ok i =>
    obtain ⟨-, rfl⟩ := decode_eq_ok_iff.1 hdecode
    rw [step_of_decode_ok hinp hdecode]
    refine exec_faulted (s := s.withInp rest) hs ?_ fun r hr => ?_
    · rintro rfl
      exact hreset rfl
    · rintro rfl
      exact hrdsr r hr (encode_rdsr r hr)

end

/-- Settles O17: the word of `RESET`, the thirteen words of `RDSR`, and every other word. -/
theorem refusalWhileFaulted : Obligations.RefusalWhileFaulted := by
  unfold Obligations.RefusalWhileFaulted
  intro s w rest hs hinp
  refine ⟨?_, ?_, step_refuses hs hinp⟩
  · rintro rfl
    exact ⟨_, exec_reset _, (step_of_decode_ok hinp rfl).trans (exec_reset _), rfl, rfl⟩
  · rintro r hr rfl
    exact step_rdsr hr hinp

/-- Settles O60: a step that resets nothing is idle, or answers a legal `RDSR`, or refuses. -/
theorem firstFaultRecordKept : Obligations.FirstFaultRecordKept := by
  unfold Obligations.FirstFaultRecordKept
  intro s t hs hstep hhard hreset
  match hinp : s.inp with
  | [] =>
    rw [step_idle hinp] at hstep
    cases hstep
    exact ⟨hs, rfl, rfl⟩
  | .hardReset :: rest => exact absurd hinp (hhard rest)
  | .command w :: rest =>
    by_cases hrdsr : ∃ r ≤ 12, w = BitVec.ofNat 64 (0x14 * 2 ^ 56 + r * 2 ^ 48)
    · obtain ⟨r, hr, rfl⟩ := hrdsr
      rw [step_rdsr hr hinp] at hstep
      cases hstep
      exact ⟨hs, rfl, rfl⟩
    · have hne : w ≠ 0x0100000000000000#64 := by
        rintro rfl
        exact hreset rest hinp
      rw [step_refuses hs hinp hne fun r hr hw => hrdsr ⟨r, hr, hw⟩] at hstep
      cases hstep
      exact ⟨hs, rfl, rfl⟩

end Sys2Proof.Machine
end

section
/-! PROOF. The steps that take no command word: the reset input (70_reset_and_hazards.md R250) and the step with
nothing presented (60_exceptions.md R239). -/

namespace Sys2Proof.Machine

/-- The reset input leaves the block as after reset; the input is taken and no response is added (log 3). -/
theorem step_hardReset_eq_resetBut {s : State} {rest : List HostInput} (hinp : s.inp = .hardReset :: rest) :
    ∃ b d f, step s = .next (State.resetBut b d rest s.resps f) := by
  rw [step_hardReset hinp, resetBlock_eq_resetBut]
  exact ⟨_, _, _, rfl⟩

/-- Settles O11: the reset input replaces the block and leaves the responses; an empty port leaves all as it is. -/
theorem resetInputAndIdleStep : Obligations.ResetInputAndIdleStep := by
  unfold Obligations.ResetInputAndIdleStep
  constructor
  · intro s rest hinp
    obtain ⟨b, d, f, hstep⟩ := step_hardReset_eq_resetBut hinp
    exact ⟨_, hstep, rfl⟩
  · intro s hinp
    exact step_idle hinp

end Sys2Proof.Machine
end
